-- ==== Sys2Proof/Word.lean ====
section
/-! DEFINITION. The word types of the Bragor BG262: register bytes, frame addresses and the low
nibble that page select and head select use (00_scope.md "Numbers", R131, R138). -/

namespace Sys2Proof

/-- A register byte (00_scope.md, "Numbers"). -/
abbrev Byte := BitVec 8

/-- The address field of an arm link frame, 0x00..0x7F (R131). -/
abbrev Addr := BitVec 7

/-- A page number or a head select value, 0..15 (R138). -/
abbrev Nibble := BitVec 4

end Sys2Proof
end

