-- ==== Sys2Proof/Syntax.lean ====
section
/-! DEFINITION. The commands of the BG262: one constructor for each row of spec/opcode_table.json,
in the table's order. The table gives no operand bits; the operands are what the event brings from
outside (assumption log 3, 9 and 11). -/

namespace Sys2Proof

/-- The two channels; each has one downstream port of the same name (00_scope.md, "Channels, ports
and heads"). -/
inductive Chan where
  | a
  | b
  deriving DecidableEq, Repr

/-- The steps of the part (95_what_each_step_holds.md), each whole and indivisible. -/
inductive Instr where
  /-- POWER_ON: the supply is good and REFCLK runs (R174). -/
  | powerOn
  /-- OPTION_LOAD_COMPLETE; `uwgA`, `uwgB` are the raw upstream gates at that instant (R171, R27). -/
  | optionLoadComplete (uwgA uwgB : Bool)
  /-- RSTN_FALL (R27, R174). -/
  | rstnFall
  /-- RSTN_RISE; `uwgA`, `uwgB` are the raw upstream gates at that instant (R174, R27). -/
  | rstnRise (uwgA uwgB : Bool)
  /-- UPSTREAM_RISE: a filtered rise of UWG_c (R1, R14). -/
  | upstreamRise (c : Chan)
  /-- UPSTREAM_FALL: a filtered fall of UWG_c (R1, R10). -/
  | upstreamFall (c : Chan)
  /-- SERVO_RISE: a filtered rise of SG_c (R3, R40). -/
  | servoRise (c : Chan)
  /-- SERVO_FALL: a filtered fall of SG_c (R3, R42). -/
  | servoFall (c : Chan)
  /-- WARM_START of the record whose rise is `rise` (R33, R34). -/
  | warmStart (c : Chan) (rise : Nat)
  /-- WRITE_START of the record whose rise is `rise` (R35). -/
  | writeStart (c : Chan) (rise : Nat)
  /-- WRITE_END of the record whose rise is `rise` (R37). -/
  | writeEnd (c : Chan) (rise : Nat)
  /-- TAIL_END of the record whose rise is `rise` (R38). -/
  | tailEnd (c : Chan) (rise : Nat)
  /-- STALL_CUT of the record that carries the stall timer (R24). -/
  | stallCut (c : Chan)
  /-- HEAT_TICK (R60). -/
  | heatTick (c : Chan)
  /-- MONITOR_SAMPLE; `lines` are MON_c as they stand (R104, R177). -/
  | monitorSample (c : Chan) (lines : BitVec 2)
  /-- FAULT_CLEAR: a relayed write of 0xC1 to the command register completes (R127, R54). -/
  | faultClear (c : Chan)
  /-- CHANNEL_RESTART: a relayed write of 0xC2 to the command register completes (R127, R55). -/
  | channelRestart (c : Chan)
  /-- MODE_WRITE_HALT: a relayed mode write of 2 or 3 completes (R123, R49). -/
  | modeWriteHalt (c : Chan)
  /-- MODE_WRITE_NORMAL: a relayed mode write of 0 completes (R123, R48). -/
  | modeWriteNormal (c : Chan)
  /-- MODE_WRITE_SHADOW: a relayed mode write of 1 completes (R123, R48). -/
  | modeWriteShadow (c : Chan)
  /-- INJECT_WRITE: a relayed write of the inject register completes (R128). -/
  | injectWrite (c : Chan)
  /-- BAND_SELECT_WRITE: a relayed band select write completes (R122). -/
  | bandSelectWrite (c : Chan)
  /-- HEAD_FIELD_WRITE: a relayed write of a single-byte head field completes (R117). -/
  | headFieldWrite (c : Chan)
  /-- LOW_BYTE_WRITE: a relayed write of the low byte of L0 or H_ref completes (R118). -/
  | lowByteWrite (c : Chan)
  /-- HIGH_BYTE_WRITE: a relayed write of the high byte of L0 or H_ref completes (R118). -/
  | highByteWrite (c : Chan)
  /-- HEAT_SETTING_WRITE: a relayed write of 0x42..0x47 completes (R124). -/
  | heatSettingWrite (c : Chan)
  /-- MONITOR_REGISTER_WRITE: a relayed write of 0x48 completes (R125). -/
  | monitorRegisterWrite (c : Chan)
  /-- STALL_LIMIT_WRITE: a relayed write of 0x49 completes (R125). -/
  | stallLimitWrite (c : Chan)
  /-- WEDGE_LEVEL_WRITE: a relayed write of 0x4A completes (R126). -/
  | wedgeLevelWrite (c : Chan)
  /-- PAGE_SELECT_WRITE: a relayed write of 0x7E completes (R138). -/
  | pageSelectWrite (c : Chan)
  /-- HEAD_SELECT_WRITE: a relayed write of 0x7D completes (R138, R156). -/
  | headSelectWrite (c : Chan)
  /-- LEVEL_REGISTER_WRITE: a relayed write of a level register on page 1 completes (R147, R155). -/
  | levelRegisterWrite (c : Chan)
  /-- PREAMPLIFIER_RESET: a relayed write of 0x5A to 0x7C on page 0 completes (R145). -/
  | preamplifierReset (c : Chan)
  /-- RELAYED_WRITE: a relayed write that touches no register the part decodes completes (R143). -/
  | relayedWrite (c : Chan)
  /-- TEMPERATURE_READ: a relayed read of the temperature register completes, returning `byte` (R68). -/
  | temperatureRead (c : Chan) (byte : Byte)
  /-- JOURNAL_SLOT_READ: a relayed read of a slot's byte 3 completes, returning `byte` (R166). -/
  | journalSlotRead (c : Chan) (byte : Byte)
  /-- SUMMARY_READ: a relayed read of the summary completes, returning `byte` (R168). -/
  | summaryRead (c : Chan) (byte : Byte)
  /-- UPSTREAM_FRAME_START; `selA`, `selB` are the levels of the lines SEL_A and SEL_B, active low (R131,
  R177). -/
  | upstreamFrameStart (selA selB : Bool)
  /-- UPSTREAM_WRITE_END: the frame ends; `bits` were clocked in on SDI, the first one first (R131,
  R133). -/
  | upstreamWriteEnd (bits : List Bool)
  /-- UPSTREAM_READ_ADDRESS: a read reaches its eighth bit; `bits` are those eight (R131, R134). -/
  | upstreamReadAddress (bits : List Bool)
  /-- EARLY_RELEASE: the select of a read is released before RDY rises (R134). -/
  | earlyRelease
  /-- DOUBLE_SELECT: the second select goes active during a frame (R134, R135). -/
  | doubleSelect
  /-- RELAYED_FRAME_GRANT on port `c` (R137). -/
  | relayedFrameGrant (c : Chan)
  /-- LEARNING_SEQUENCE_GRANT on port `c` (R139). -/
  | learningSequenceGrant (c : Chan)
  /-- LEARNING_READ_COMPLETE on port `c`, returning `byte` (R139). -/
  | learningReadComplete (c : Chan) (byte : Byte)
  /-- UPKEEP_SEQUENCE_GRANT on port `c` (R152). -/
  | upkeepSequenceGrant (c : Chan)
  /-- UPKEEP_WRITE_COMPLETE on port `c` (R153). -/
  | upkeepWriteComplete (c : Chan)
  /-- INSERTED_PAGE_SELECT_COMPLETE on port `c` (R140). -/
  | insertedPageSelectComplete (c : Chan)
  /-- RECORD_SEQUENCE_GRANT on port `c` (R165). -/
  | recordSequenceGrant (c : Chan)
  /-- SUMMARY_SEQUENCE_GRANT on port `c` (R167). -/
  | summarySequenceGrant (c : Chan)
  /-- JOURNAL_WRITE_COMPLETE on port `c` (R165). -/
  | journalWriteComplete (c : Chan)
  /-- RELAYED_READ: a relayed read that matches no register the part decodes, or that is doubly
  selected, completes, returning `byte` (R144). -/
  | relayedRead (c : Chan) (byte : Byte)
  /-- RAW_GATE_RETURN_LOW: the raw upstream gate returns low before it has held high for 2 quanta
  after a reset (R2). -/
  | rawGateReturnLow (c : Chan)
  /-- UPSTREAM_READ_END: the selects of a read frame go inactive (R134, R135). -/
  | upstreamReadEnd
  deriving DecidableEq, Repr

end Sys2Proof
end

