-- ==== Sys2Proof/WellFormed.lean ====
section
/-! DEFINITION. Which commands are well formed: the checks an operand's type does not already make. -/

namespace Sys2Proof

/-- Whether the bits of an upstream frame begin with the direction bit `read` (R131: 1 read, 0 write).
A frame that ended before its first bit has no direction. -/
def directionIs (read : Bool) (bits : List Bool) : Bool :=
  match bits with
  | [] => !read
  | first :: _ => first == read

/-- At a frame start at least one of the two selects, which are active low, is low (R131, R177); the bits of a write's end do not begin with a
read's direction bit; the bits of a read at its eighth bit are eight and begin with it (R131, R134).
Every other command is well formed by the types of its operands. -/
def Instr.wf : Instr → Bool
  | .upstreamFrameStart selA selB => !(selA && selB)
  | .upstreamWriteEnd bits => directionIs false bits
  | .upstreamReadAddress bits => bits.length == 8 && directionIs true bits
  | .powerOn | .optionLoadComplete _ _ | .rstnFall | .rstnRise _ _ | .upstreamRise _
  | .upstreamFall _ | .servoRise _ | .servoFall _ | .warmStart _ _ | .writeStart _ _
  | .writeEnd _ _ | .tailEnd _ _ | .stallCut _ | .heatTick _ | .monitorSample _ _
  | .faultClear _ | .channelRestart _ | .modeWriteHalt _ | .modeWriteNormal _
  | .modeWriteShadow _ | .injectWrite _ | .bandSelectWrite _ | .headFieldWrite _
  | .lowByteWrite _ | .highByteWrite _ | .heatSettingWrite _ | .monitorRegisterWrite _
  | .stallLimitWrite _ | .wedgeLevelWrite _ | .pageSelectWrite _ | .headSelectWrite _
  | .levelRegisterWrite _ | .preamplifierReset _ | .relayedWrite _ | .temperatureRead _ _
  | .journalSlotRead _ _ | .summaryRead _ _ | .earlyRelease | .doubleSelect
  | .relayedFrameGrant _ | .learningSequenceGrant _ | .learningReadComplete _ _
  | .upkeepSequenceGrant _ | .upkeepWriteComplete _ | .insertedPageSelectComplete _
  | .recordSequenceGrant _ | .summarySequenceGrant _ | .journalWriteComplete _
  | .relayedRead _ _ | .rawGateReturnLow _ | .upstreamReadEnd => true

end Sys2Proof
end

