-- ==== Sys2Proof/Decode.lean ====
section
/-! DEFINITION. `decodeTableWord`, and the bit form of an arm link frame (R131, Layouts "Arm link
frame"). -/

namespace Sys2Proof

/-- The opcode table gives no row any bits, so no word spells a command. -/
def decodeTableWord (_nbits _w : Nat) : Option Instr := none

/-- The number whose bits are given, the most significant first (R131). -/
def bitsToNat (bits : List Bool) : Nat :=
  bits.foldl (fun n b => 2 * n + b.toNat) 0

/-- The address field of a frame's bits: the 2nd to the 8th (R131). -/
def frameAddr (bits : List Bool) : Addr := BitVec.ofNat 7 (bitsToNat ((bits.drop 1).take 7))

/-- The data field of a frame's bits: the 9th to the 16th; clocks beyond the sixteenth are ignored
(R131). -/
def frameData (bits : List Bool) : Byte := BitVec.ofNat 8 (bitsToNat ((bits.drop 8).take 8))

/-- The `w` bits of a number, the most significant first. -/
def natToBits : Nat → Nat → List Bool
  | 0, _ => []
  | w + 1, n => n.testBit w :: natToBits w n

/-- The sixteen bits of a frame in the order they are sent: direction, address, data (R131, R136). -/
def frameBits (read : Bool) (addr : Addr) (data : Byte) : List Bool :=
  read :: (natToBits 7 addr.toNat ++ natToBits 8 data.toNat)

end Sys2Proof
end

