-- ==== Sys2Proof/Config.lean ====
section
/-! DEFINITION. The fixed figures of the part, and the free values: what the outside presents when no
command carries it, and the order of events at one instant. -/

namespace Sys2Proof.Config

/-- The guard: the least time between the upstream rise and the warm start (00_scope.md, R5, R75). -/
def guardQuanta : Nat := 4

/-- Records a burst queue holds (R9). -/
def queueDepth : Nat := 4

/-- Records a pending list holds (R161). -/
def pendingDepth : Nat := 12

/-- Heads a channel may have (R173). -/
def maxHeads : Nat := 12

/-- Quanta a raw gate level must hold before the filter takes it (R1). -/
def filterQuanta : Nat := 2

/-- Quanta from the supply being good to the completion of the option load (R174). -/
def loadQuanta : Nat := 32

/-- The period of the first tick interval after a reset (R60). -/
def firstTickPeriod : Nat := 256

/-- The consecutive HIGH samples that declare light over (R107). -/
def lightOverCount : Nat := 2

/-- DESIGN CHOICE (log 2): which of the part's own events due at one instant the idle step takes
first, at its n-th choice. Nothing is known of it: the spec allows either order. -/
opaque orderChoice : Nat → Nat

/-- DESIGN CHOICE (log 3): the monitor lines MON_c at an instant, for a sample the idle step takes. -/
opaque monLines : Chan → Nat → BitVec 2

/-- DESIGN CHOICE (log 3): the byte the preamplifier returns on DDO_c at an instant, for a read the
idle step completes. -/
opaque returnedByte : Chan → Nat → Byte

/-- DESIGN CHOICE (log 3): the raw upstream gate UWG_c through the quantum that begins at an instant; true is
high. The gate filter follows it (R1), and a power-on that the idle step ends finds it (R27). -/
opaque rawGate : Chan → Nat → Bool

/-- DESIGN CHOICE (log 3): the raw servo gate SG_c through the quantum that begins at an instant; true is high. The
servo gate filter follows it (R3). -/
opaque rawServo : Chan → Nat → Bool

/-- DESIGN CHOICE (log 14): the level of DDI_c through the eight data bits of a read frame begun at an instant.
R134 says that the part sends the direction and address bits, and nothing of these. -/
opaque ddiThroughData : Chan → Nat → Byte

/-- DESIGN CHOICE (log 6): the upstream write data of a channel through the quantum that begins at an
instant; true is UWD_c+ high. -/
opaque writeData : Chan → Nat → Bool

end Sys2Proof.Config
end

