-- ==== Sys2Proof/Machine/State.lean ====
section
/-! DEFINITION. State: every piece of state the spec gives the BG262, as plain data, and its value at the
instant a power-on with a blank option memory ends. -/

namespace Sys2Proof.Machine

/-- The driven level on LVL_c (R28, R177). -/
inductive Level where
  | off
  | bias
  | warm
  | write
  deriving DecidableEq, Repr

/-- The plan states of the Laser Planner (R28). -/
inductive PlanState where
  | parked
  | halted
  | rest
  | lead
  | warm
  | write
  | fade
  | wedge
  | fault
  deriving DecidableEq, Repr

/-- The channel's mode (R123). -/
inductive Mode where
  | normal
  | shadow
  | halt
  deriving DecidableEq, Repr

/-- The wedge level setting (R126). -/
inductive WedgeLevel where
  | bias
  | off
  deriving DecidableEq, Repr

/-- The reasons a burst is refused for (R14, R175). -/
inductive RefuseReason where
  | queueFull
  | halted
  | faulted
  | held
  | noHead
  | tableIncomplete
  | levelsNotReady
  | budget
  deriving DecidableEq, Repr

/-- The reasons a record is truncated for (R21, R175). -/
inductive CutReason where
  | servo
  | stall
  | fault
  | halt
  | restart
  deriving DecidableEq, Repr

/-- The outcome of a burst record; a truncated one carries its truncation instant (R6, R8). -/
inductive BurstOutcome where
  | accepted
  | shadow
  | refused (why : RefuseReason)
  | truncated (why : CutReason) (instant : Nat)
  deriving DecidableEq, Repr

/-- One burst record (R6). `tailEnd` is the tail end once the write end has fixed it (R5, R37). The
three `…Taken` marks say whether the record's own expiry has been taken (R32; log 9). -/
structure BurstRecord where
  head : Option Nat
  band : BitVec 3
  rise : Nat
  fall : Option Nat := none
  outcome : BurstOutcome
  lead : Option Nat := none
  ceiling : Option Int := none
  stall : Option Nat := none
  tailEnd : Option Nat := none
  warmTaken : Bool := false
  startTaken : Bool := false
  endTaken : Bool := false
  deriving DecidableEq, Repr

/-- A head entry of the Calibration Table (R114). A field is `none` while its written mark is clear,
and reads as 0 then. `bases` holds the 24 base currents at their page addresses 0x00..0x17 (R117). -/
structure HeadEntry where
  bases : List (Option Byte) := List.replicate 24 none
  l0 : Option Nat := none
  lmin : Option Byte := none
  tail : Option Byte := none
  u : Option Byte := none
  s : Option Byte := none
  href : Option (BitVec 16) := none
  g : Option Byte := none
  d : Option Byte := none
  l0Low : Option Byte := none
  hrefLow : Option Byte := none
  deriving DecidableEq, Repr

/-- The counts of quanta of one head in the tick tally (R63). -/
structure Tally where
  bias : Nat := 0
  warm : Nat := 0
  write : Nat := 0
  deriving DecidableEq, Repr

/-- What a channel keeps of one configured head: its entry (R114), its heat (R59), its tally (R63). -/
structure Head where
  cal : HeadEntry := {}
  heat : Nat := 0
  tally : Tally := {}
  deriving DecidableEq, Repr

/-- The channel fields of the Calibration Table, at their effective values, with their defaults
(R114, R122 to R126). `ka` is read as two's complement. -/
structure ChannelFields where
  band : BitVec 3 := 0
  mode : Mode := .normal
  wBias : Byte := 8
  wWarm : Byte := 96
  wWrite : Byte := 160
  prescale : BitVec 3 := 2
  a0 : Byte := 64
  ka : Byte := 0
  monPeriod : Nat := 64
  nLoss : Nat := 4
  settle : Nat := 1
  stallLimit : Nat := 0
  wedge : WedgeLevel := .bias
  deriving DecidableEq, Repr

/-- The Light Monitor (R100): the instant of the next sample or stopped, samples since entry, the LOW
and HIGH counts, the inject arm. -/
structure Monitor where
  due : Option Nat := none
  since : Nat := 0
  low : Nat := 0
  high : Nat := 0
  armed : Bool := false
  deriving DecidableEq, Repr

/-- The kinds of journal events (R161, R175). -/
inductive EventKind where
  | refused
  | truncated
  | shortWarm
  | trimLimit
  | lightLoss
  | lightOver
  | faultCleared
  | restarted
  | preampResetSeen
  | started
  deriving DecidableEq, Repr

/-- A record of the pending list (R161). -/
structure PendingRecord where
  kind : EventKind
  head : Byte
  detail : Byte
  count : Nat
  deriving DecidableEq, Repr

/-- The state of a journal slot (R161). -/
inductive SlotState where
  | free
  | filling
  | occupied
  deriving DecidableEq, Repr

/-- A channel's Journal (R161). -/
structure Journal where
  pending : List PendingRecord := []
  slots : List SlotState := List.replicate 8 .free
  nextWrite : BitVec 3 := 0
  dropped : Bool := false
  lastSummary : Option Byte := none
  deriving DecidableEq, Repr

/-- One inserted frame (R139, R140): a learning read, a page select or restore write, or a content
write of the sequence's originator. -/
inductive InsertedFrame where
  | readPage
  | readHead
  | selectPage (page : Nibble)
  | content (addr : Addr) (data : Byte)
  deriving DecidableEq, Repr

/-- Whose inserted sequence a port carries (R139, R152, R165, R167). -/
inductive SeqOwner where
  | learning
  | upkeep
  | record (slot : BitVec 3)
  | summary (value : Byte)
  deriving DecidableEq, Repr

/-- What a busy port carries (R136): the relayed frame in the relay slot, with the page shadow as it
stood when the frame began (R143), or an inserted sequence, with the frame in progress first. -/
inductive PortWork where
  | relayed (page : Option Nibble)
  | inserted (owner : SeqOwner) (frames : List InsertedFrame)
  deriving DecidableEq, Repr

/-- A busy port: the instant its current frame began, and its work (R136). -/
structure Job where
  began : Nat
  work : PortWork
  deriving DecidableEq, Repr

/-- Where a port's learning sequence stands (R139); `absent` on a parked channel and during a reset. -/
inductive Learning where
  | absent
  | queued
  | running
  | complete
  deriving DecidableEq, Repr

/-- A downstream port: its shadows, unknown as `none` (R138), its learning, its work (R136). -/
structure Port where
  page : Option Nibble := none
  headSel : Option Nibble := none
  learning : Learning := .absent
  job : Option Job := none
  deriving DecidableEq, Repr

/-- The level image: each value known or unknown (R147). -/
structure LevelImage where
  bias : Option Byte := none
  warm : Option Byte := none
  write : Option Byte := none
  deriving DecidableEq, Repr

/-- What the controller has done with a read that stands in the slot (R134). -/
inductive ReadHold where
  | held
  | released
  | doubled
  deriving DecidableEq, Repr

/-- The direction and contents of a frame in the relay slot (R131, R132). -/
inductive FrameKind where
  | write (addr : Addr) (data : Byte)
  | read (addr : Addr) (hold : ReadHold)
  deriving DecidableEq, Repr

/-- The frame in the relay slot, and the port it is for (R132). -/
structure SlotFrame where
  port : Chan
  kind : FrameKind
  deriving DecidableEq, Repr

/-- The upstream frame in reception (R131, R134, R135): none; one begun with RDY high under one select;
a read past its eighth bit, its select held; a read whose byte stands ready for SDO; or a frame that is
ignored to its end. -/
inductive Reception where
  | idle
  | receiving (c : Chan)
  | reading (c : Chan)
  | delivering (c : Chan) (byte : Byte)
  | ignored
  deriving DecidableEq, Repr

/-- The load status of the option memory (R171). -/
inductive LoadStatus where
  | loaded
  | blank
  | clamped
  deriving DecidableEq, Repr

/-- The loaded copy, at the defaults of a blank memory (R171, R172); until the load of a power-on completes it keeps
its values (log 8). -/
structure LoadedCopy where
  headsA : Nat := 4
  headsB : Nat := 4
  delayA : Nat := 160
  delayB : Nat := 160
  budget : Nat := 400
  pageParam : Nibble := 12
  pageJournal : Nibble := 13
  tempAddr : Addr := 0x30
  tempPage : Nibble := 0
  frameTime : Nat := 80
  deriving DecidableEq, Repr

/-- Where the part stands between its resets (R174): a power-on whose option load completes at an
instant, a power-on whose load is done and which waits for RSTn, a line reset, or neither. -/
inductive Phase where
  | loading (due : Nat)
  | loadDone
  | lineReset
  | running
  deriving DecidableEq, Repr

/-- One channel: the blocks marked per channel (00_scope.md, "Blocks"), and its reservation (R89). The
defaults are the values of a power-on and of a line reset (R27, R57, R72, R89, R113, R130, R146, R159,
R170); `heads` has one item per configured head. `uwgHeld` and `sgHeld` are the gate filters' hold counts: the
quanta for which the raw line has now stood at the level that the filter has not taken (R1, R3). DESIGN CHOICE
(log 8): `nextTick` and `tickPeriod` have their defaults, 0 and 256, only while a reset lasts, when no tick interval
is in progress and the spec gives them no value. -/
structure Channel where
  uwg : Bool := false
  uwgHeld : Nat := 0
  sg : Bool := false
  sgHeld : Nat := 0
  disregard : Bool := false
  queue : List BurstRecord := []
  dwg : Bool := false
  wu : Bool := false
  delayLine : List Bool := []
  plan : PlanState := .rest
  lvl : Level := .off
  heldTrim : Int := 0
  res : Nat := 0
  heads : List Head := []
  nextTick : Nat := 0
  tickPeriod : Nat := 256
  ambient : Byte := 0
  ambientSet : Bool := false
  mon : Monitor := {}
  set : ChannelFields := {}
  injectMemory : Bool := false
  port : Port := {}
  image : LevelImage := {}
  jnl : Journal := {}
  deriving DecidableEq, Repr

/-- The whole part. `orderCount` counts the free choices of order made so far (log 2); `pending` is the
queue of waiting commands. -/
structure State where
  now : Nat
  phase : Phase
  rstn : Bool
  optionBytes : List Byte
  loaded : LoadedCopy
  loadStatus : LoadStatus
  slot : Option SlotFrame
  reception : Reception
  rdy : Bool
  chA : Channel
  chB : Channel
  orderCount : Nat
  pending : List Instr
  deriving DecidableEq, Repr

/-- Why the machine would stop with a fault: never. The part's FAULT is a plan state (R51), and no
command of the table has an effect the spec leaves undefined, so the type has no constructor (safe; log 15). -/
inductive Fault where
  deriving DecidableEq, Repr

/-- Why the machine gives a command no meaning. -/
inductive Refusal where
  /-- Raised by an arm of `exec` whose command has no meaning yet (safe: nothing follows from it). No arm
  raises it. -/
  | notModelled (mnemonic : String)
  deriving DecidableEq, Repr

/-- A channel with `heads` configured heads at the end of a reset at instant `now` (R174): its filters
begin to follow their lines with nothing held, its first heat tick is 256 quanta away, its learning sequence is queued,
and STARTED stands in its pending list with the detail given (R170). -/
def Channel.started (heads now : Nat) (gateHigh : Bool) (detail : Byte) : Channel :=
  { disregard := gateHigh
    plan := if heads = 0 then .parked else .rest
    heads := List.replicate heads {}
    nextTick := now + Config.firstTickPeriod
    tickPeriod := Config.firstTickPeriod
    port := { learning := if heads = 0 then .absent else .queued }
    jnl := { pending := [⟨.started, 0x0F, detail, 1⟩] } }

/-- The machine right after reset: the instant at which a power-on that began at quantum 0 ends, with
RSTn high, both raw gates low and a blank option memory (R172, R174; log 7). -/
def State.reset : State :=
  { now := Config.loadQuanta
    phase := .running
    rstn := true
    optionBytes := List.replicate 8 0xFF
    loaded := {}
    loadStatus := .blank
    slot := none
    reception := .idle
    rdy := true
    chA := Channel.started 4 Config.loadQuanta false 2
    chB := Channel.started 4 Config.loadQuanta false 2
    orderCount := 0
    pending := [] }

end Sys2Proof.Machine
end

