-- ==== Sys2Proof/Machine/Operands.lean ====
section
/-! DEFINITION. The operand forms: encodings of codes and lines (Layouts), the derived times of a burst
record (R5), what a relayed frame's page and address name (R115, R141, R143, R144), head entry fields
and their values (R116 to R120). -/

namespace Sys2Proof.Machine

/-- To clamp a value to a range (00_scope.md, "Numbers"). -/
def clamp (lo hi x : Int) : Int := if x < lo then lo else if hi < x then hi else x

/-! ## Codes and lines (R175 to R177) -/

/-- The refusal reason codes (R175). -/
def RefuseReason.code : RefuseReason → Byte
  | .queueFull => 1
  | .halted => 2
  | .faulted => 3
  | .held => 4
  | .noHead => 5
  | .tableIncomplete => 6
  | .levelsNotReady => 7
  | .budget => 8

/-- The truncation reason codes (R175). -/
def CutReason.code : CutReason → Byte
  | .servo => 1
  | .stall => 2
  | .fault => 3
  | .halt => 4
  | .restart => 5

/-- The kind codes (R175). -/
def EventKind.code : EventKind → Byte
  | .refused => 0x01
  | .truncated => 0x02
  | .shortWarm => 0x03
  | .trimLimit => 0x04
  | .lightLoss => 0x05
  | .lightOver => 0x06
  | .faultCleared => 0x07
  | .restarted => 0x08
  | .preampResetSeen => 0x09
  | .started => 0x0A

/-- The head byte of an event of the channel as a whole, or of a burst with no head (R175). -/
def noHeadCode : Byte := 0x0F

/-- The head byte of an event (R175). -/
def headCode : Option Nat → Byte
  | some h => BitVec.ofNat 8 h
  | none => noHeadCode

/-- The STARTED detail that reports a load status (R170, R173). -/
def LoadStatus.startedDetail : LoadStatus → Byte
  | .loaded => 1
  | .blank => 2
  | .clamped => 3

/-- A level is heated when it is WARM or WRITE (R100). -/
def Level.heated : Level → Bool
  | .warm | .write => true
  | .off | .bias => false

/-- LVL_c[1:0] (R177). -/
def Level.lines : Level → BitVec 2
  | .off => 0
  | .bias => 1
  | .warm => 2
  | .write => 3

/-- A select is active while its line is low: SEL_A, SEL_B and DSEL_c (R177). -/
def selectActive (line : Bool) : Bool := !line

/-- The level of a select line (R177). -/
def selectLine (active : Bool) : Bool := !active

/-- A reading of the light monitor (R177). -/
inductive Reading where
  | low
  | inWindow
  | high
  deriving DecidableEq, Repr

/-- MON_c[1:0]; the fourth encoding is taken as LOW (R104, R177). -/
def readingOf (lines : BitVec 2) : Reading :=
  if lines = 1 then .inWindow else if lines = 2 then .high else .low

/-! ## Burst records and their instants (R5, R8, R12) -/

/-- An ACCEPTED record (R8). -/
def BurstRecord.isAccepted (r : BurstRecord) : Bool :=
  match r.outcome with
  | .accepted => true
  | .shadow | .refused _ | .truncated _ _ => false

/-- A SHADOW record (R8). -/
def BurstRecord.isShadow (r : BurstRecord) : Bool :=
  match r.outcome with
  | .shadow => true
  | .accepted | .refused _ | .truncated _ _ => false

/-- A record the Planner may serve: ACCEPTED or SHADOW (R8, R12). -/
def BurstRecord.served (r : BurstRecord) : Bool := r.isAccepted || r.isShadow

/-- The write start, rise + D (R5). -/
def BurstRecord.writeStart (delay : Nat) (r : BurstRecord) : Nat := r.rise + delay

/-- The write end, fall + D, once the fall is known (R5). -/
def BurstRecord.writeEnd (delay : Nat) (r : BurstRecord) : Option Nat := r.fall.map (· + delay)

/-- The warm start, write start less lead, for a record with a lead (R5). -/
def BurstRecord.warmStart (delay : Nat) (r : BurstRecord) : Option Nat :=
  r.lead.map (r.writeStart delay - ·)

/-- An instant that may not be known has come (R32). -/
def hasCome (now : Nat) : Option Nat → Bool
  | some t => t ≤ now
  | none => false

/-- The upper bound U of a record's trim: the lesser of 31 and its ceiling when ACCEPTED, 31 when
SHADOW (R29, R78). -/
def BurstRecord.upper (r : BurstRecord) : Int :=
  if r.isAccepted then min 31 (r.ceiling.getD 31) else 31

/-- The front record: the oldest live ACCEPTED or SHADOW record (R12). -/
def Channel.front (ch : Channel) : Option BurstRecord := ch.queue.find? (·.served)

/-- The next record: the second-oldest live ACCEPTED or SHADOW record (R12). -/
def Channel.nextUp (ch : Channel) : Option BurstRecord := ((ch.queue.filter (·.served)).drop 1).head?

/-- The record of the queue made at the instant `rise`; no two share a rise (R9). -/
def Channel.recordAt (rise : Nat) (ch : Channel) : Option BurstRecord :=
  ch.queue.find? (·.rise == rise)

/-- `r` is the record an `Option` of the queue names; a record is known by its rise (R9). -/
def BurstRecord.isThe (r : BurstRecord) (o : Option BurstRecord) : Bool := o.any (·.rise == r.rise)

/-! ## Head entries (R114 to R120) -/

/-- A single-byte field, or 0 while it is unwritten (R114). -/
def byteValue (f : Option Byte) : Nat := (f.getD 0).toNat

/-- The address of a base on the page: 3b bias, 3b + 1 warm, 3b + 2 write (R117). -/
def baseIndex (band : BitVec 3) (k : Nat) : Nat := 3 * band.toNat + k

/-- A base of a band, if its written mark is set (R117). -/
def HeadEntry.base (band : BitVec 3) (k : Nat) (e : HeadEntry) : Option Byte :=
  (e.bases[baseIndex band k]?).join

/-- A band is present once its three bases are written (R119). -/
def HeadEntry.bandPresent (band : BitVec 3) (e : HeadEntry) : Bool :=
  (e.base band 0).isSome && (e.base band 1).isSome && (e.base band 2).isSome

/-- The timing-and-heat part is complete once its eight fields are written (R120). -/
def HeadEntry.timingComplete (e : HeadEntry) : Bool :=
  e.l0.isSome && e.lmin.isSome && e.tail.isSome && e.u.isSome && e.s.isSome && e.href.isSome
    && e.g.isSome && e.d.isSome

/-- A write of a single-byte head field: the 24 bases at 0x00..0x17, Lmin 0x1A, tail 0x1B, u 0x1C,
s 0x1D, g 0x20, d 0x21 (R117). -/
def HeadEntry.writeByte (addr : Addr) (data : Byte) (e : HeadEntry) : HeadEntry :=
  if addr.toNat < 0x18 then { e with bases := e.bases.set addr.toNat (some data) }
  else if addr = 0x1A then { e with lmin := some data }
  else if addr = 0x1B then { e with tail := some data }
  else if addr = 0x1C then { e with u := some data }
  else if addr = 0x1D then { e with s := some data }
  else if addr = 0x20 then { e with g := some data }
  else if addr = 0x21 then { e with d := some data }
  else e

/-- A write of the low byte of L0 (0x18) or H_ref (0x1E) fills the low-byte memory (R118). -/
def HeadEntry.writeLow (addr : Addr) (data : Byte) (e : HeadEntry) : HeadEntry :=
  if addr = 0x18 then { e with l0Low := some data }
  else if addr = 0x1E then { e with hrefLow := some data }
  else e

/-- The 16-bit value of a high byte and a low-byte memory, an empty memory counting as 0 (R118). -/
def wordOf (high : Byte) (low : Option Byte) : BitVec 16 := high ++ low.getD 0

/-- A write of the high byte of L0 (0x19) or H_ref (0x1F) forms the value; L0 is clamped to 400
(R118). -/
def HeadEntry.writeHigh (addr : Addr) (data : Byte) (e : HeadEntry) : HeadEntry :=
  if addr = 0x19 then { e with l0 := some (min 400 (wordOf data e.l0Low).toNat) }
  else if addr = 0x1F then { e with href := some (wordOf data e.hrefLow) }
  else e

/-- The heads written under a head select shadow: the head it names, every head at 15, none otherwise
(R116). -/
def writeHeads (sel : Option Nibble) (f : HeadEntry → HeadEntry) (heads : List Head) : List Head :=
  match sel with
  | some n =>
    if n = 15 then heads.map fun h => { h with cal := f h.cal }
    else heads.modify n.toNat fun h => { h with cal := f h.cal }
  | none => heads

/-! ## What a relayed frame names (R115, R127, R141, R143, R144) -/

/-- What a relayed write reaches in the part; each is one row of the opcode table. -/
inductive WriteKind where
  | pageSelect
  | headSelect
  | preampReset
  | levelRegister
  | headField
  | lowByte
  | highByte
  | bandSelect
  | modeNormal
  | modeShadow
  | modeHalt
  | heatSetting
  | monitorRegister
  | stallLimit
  | wedgeLevel
  | faultClear
  | channelRestart
  | inject
  | other
  deriving DecidableEq, Repr

/-- What a write to a parameter page address is, by its address and, for mode and command, its data
(R115, R123, R127). -/
def paramWriteKind (addr : Addr) (data : Byte) : WriteKind :=
  if addr = 0x18 ∨ addr = 0x1E then .lowByte
  else if addr = 0x19 ∨ addr = 0x1F then .highByte
  else if addr.toNat ≤ 0x21 then .headField
  else if addr = 0x40 then .bandSelect
  else if addr = 0x41 then
    (if data.toNat % 4 = 0 then .modeNormal else if data.toNat % 4 = 1 then .modeShadow else .modeHalt)
  else if 0x42 ≤ addr.toNat ∧ addr.toNat ≤ 0x47 then .heatSetting
  else if addr = 0x48 then .monitorRegister
  else if addr = 0x49 then .stallLimit
  else if addr = 0x4A then .wedgeLevel
  else if addr = 0x4B then
    (if data = 0xC1 then .faultClear else if data = 0xC2 then .channelRestart else .other)
  else if addr = 0x4C then .inject
  else .other

/-- What a relayed write reaches, by the page shadow when its frame began, its address and its data
(R143). -/
def writeKind (pageParam : Nibble) (page : Option Nibble) (addr : Addr) (data : Byte) : WriteKind :=
  if addr = 0x7E then .pageSelect
  else if addr = 0x7D then .headSelect
  else if page = some 0 ∧ addr = 0x7C ∧ data = 0x5A then .preampReset
  else if page = some 1 ∧ (addr = 0x10 ∨ addr = 0x11 ∨ addr = 0x12) then .levelRegister
  else if page = some pageParam then paramWriteKind addr data
  else .other

/-- A frame is protected against a page shadow: a write to head select on any page, to a level register
while the shadow is 1, to the reset register while it is 0, or to any of those while it is unknown (R141). -/
def protectedFrame (page : Option Nibble) : FrameKind → Bool
  | .read _ _ => false
  | .write addr _ =>
    addr == 0x7D
      || ((addr == 0x10 || addr == 0x11 || addr == 0x12) && (page == none || page == some 1))
      || (addr == 0x7C && (page == none || page == some 0))

/-- The page shadow that the page selects among some frames leave (R138, R140). -/
def pageAfter (page : Option Nibble) : List InsertedFrame → Option Nibble
  | [] => page
  | .selectPage p :: rest => pageAfter (some p) rest
  | .readPage :: rest | .readHead :: rest | .content _ _ :: rest => pageAfter page rest

/-- The page shadow a port will have at the end of the inserted sequence it carries; the present one when it
carries none (R140). -/
def Port.pageAtEnd (p : Port) : Option Nibble :=
  match p.job with
  | some ⟨_, .inserted _ frames⟩ => pageAfter p.page frames
  | some ⟨_, .relayed _⟩ | none => p.page

/-- A read matches the temperature register (R68, R144). -/
def isTemperature (l : LoadedCopy) (page : Option Nibble) (addr : Addr) : Bool :=
  page == some l.tempPage && addr == l.tempAddr

/-- A read matches byte 3 of a journal slot: which one (R144, R166). -/
def slotRead (l : LoadedCopy) (page : Option Nibble) (addr : Addr) : Option (BitVec 3) :=
  if page = some l.pageJournal ∧ addr.toNat < 0x20 ∧ addr.toNat % 4 = 3 then
    some (BitVec.ofNat 3 (addr.toNat / 4))
  else none

/-- A read matches the summary (R144, R168). -/
def isSummary (l : LoadedCopy) (page : Option Nibble) (addr : Addr) : Bool :=
  page == some l.pageJournal && addr == 0x20

/-- What a completing relayed read is, as a row of the opcode table; a doubly selected one is not
decoded (R134, R144). A read that matches several registers is delivered to each (R144) and stands
here under the first. -/
inductive ReadKind where
  | temperature
  | journalSlot
  | summary
  | other
  deriving DecidableEq, Repr

/-- The rows a completing relayed read may be taken under (R144; log 11). -/
def readMatches (l : LoadedCopy) (page : Option Nibble) (addr : Addr) (hold : ReadHold) :
    ReadKind → Bool
  | .temperature => hold != .doubled && isTemperature l page addr
  | .journalSlot => hold != .doubled && (slotRead l page addr).isSome
  | .summary => hold != .doubled && isSummary l page addr
  | .other =>
    hold == .doubled
      || !(isTemperature l page addr || (slotRead l page addr).isSome || isSummary l page addr)

/-! ## The loaded copy (R171 to R173) -/

/-- The heads configured on a channel (R171). -/
def LoadedCopy.heads (c : Chan) (l : LoadedCopy) : Nat :=
  match c with
  | .a => l.headsA
  | .b => l.headsB

/-- The delay D of a channel (R171). -/
def LoadedCopy.delay (c : Chan) (l : LoadedCopy) : Nat :=
  match c with
  | .a => l.delayA
  | .b => l.delayB

/-- One of the eight option bytes (R171). -/
def optionByte (bytes : List Byte) (i : Nat) : Nat := (bytes.getD i 0).toNat

/-- The memory is blank when bytes 0 and 1 both read 0xFF (R172). -/
def optionsBlank (bytes : List Byte) : Bool := optionByte bytes 0 == 0xFF && optionByte bytes 1 == 0xFF

/-- The page numbers byte 5 gives are replaced: either is 0 or 1, or they are equal (R173). -/
def pagesClash (p j : Nat) : Bool := p == 0 || p == 1 || j == 0 || j == 1 || p == j

/-- T_f of a link-rate code: 40, 80, 120 or 160 quanta, and 160 above code 3 (R171, R173). -/
def frameTimeOf (code : Nat) : Nat := if 3 < code then 160 else 40 * (code + 1)

/-- The D byte after its clamp to 20..200 (R173). -/
def clampDelayByte (b : Nat) : Nat := if b < 20 then 20 else if 200 < b then 200 else b

/-- Some clamp of R173 replaces a decoded value. -/
def optionsClamped (bytes : List Byte) : Bool :=
  let b := optionByte bytes
  12 < b 0 || 12 < b 1 || clampDelayByte (b 2) != b 2 || clampDelayByte (b 3) != b 3
    || pagesClash (b 5 / 16) (b 5 % 16) || 3 < b 7 / 16

/-- The loaded copy that eight option bytes give (R171 to R173). -/
def loadOptions (bytes : List Byte) : LoadedCopy :=
  if optionsBlank bytes then {}
  else
    let b := optionByte bytes
    let clash := pagesClash (b 5 / 16) (b 5 % 16)
    { headsA := min 12 (b 0)
      headsB := min 12 (b 1)
      delayA := 2 * clampDelayByte (b 2)
      delayB := 2 * clampDelayByte (b 3)
      budget := 4 * b 4
      pageParam := if clash then 12 else BitVec.ofNat 4 (b 5 / 16)
      pageJournal := if clash then 13 else BitVec.ofNat 4 (b 5 % 16)
      tempAddr := BitVec.ofNat 7 (b 6 % 128)
      tempPage := BitVec.ofNat 4 (b 7 % 16)
      frameTime := frameTimeOf (b 7 / 16) }

/-- The load status that eight option bytes give (R172, R173). -/
def loadStatusOf (bytes : List Byte) : LoadStatus :=
  if optionsBlank bytes then .blank else if optionsClamped bytes then .clamped else .loaded

end Sys2Proof.Machine
end

