-- ==== Sys2Proof/Machine/Flags.lean ====
section
/-! DEFINITION. The conditions the blocks read of one another: what a burst captures (R7), the target
and the REST level (R148, R30), readiness and the upkeep need (R149, R150), activity (R142), the
energised head (R62), journal work and the summary (R164, R167, R176), the arbiter's choice (R137). -/

namespace Sys2Proof.Machine

/-- The channel is parked: it has no configured head (R56). -/
def Channel.parked (ch : Channel) : Bool := ch.heads.isEmpty

/-- The configured head the head select shadow names (R7, R148): none while it is unknown, and for a
value from heads_c upward. -/
def Channel.shadowHead (ch : Channel) : Option Nat :=
  match ch.port.headSel with
  | some n => if n.toNat < ch.heads.length then some n.toNat else none
  | none => none

/-- The head entry of a head; a cleared one for a head that is not configured (R114). -/
def Channel.entry (h : Option Nat) (ch : Channel) : HeadEntry :=
  match h with
  | some n => ((ch.heads[n]?).map (·.cal)).getD {}
  | none => {}

/-- The modelled heat of a head (R59). -/
def Channel.heatOf (h : Option Nat) (ch : Channel) : Nat :=
  match h with
  | some n => ((ch.heads[n]?).map (·.heat)).getD 0
  | none => 0

/-- The target: the bases of the head the shadow names and the band selected, if that head is configured
and that band present (R148). -/
def Channel.target (ch : Channel) : Option (Byte × Byte × Byte) :=
  match ch.shadowHead with
  | none => none
  | some h =>
    match (ch.entry (some h)).base ch.set.band 0, (ch.entry (some h)).base ch.set.band 1,
      (ch.entry (some h)).base ch.set.band 2 with
    | some b, some w, some v => some (b, w, v)
    | _, _, _ => none

/-- The level driven in REST: BIAS when the mode is NORMAL and the channel has a target (R30). -/
def Channel.restLevel (ch : Channel) : Level :=
  if ch.set.mode = .normal ∧ ch.target.isSome then .bias else .off

/-- An upkeep sequence of the channel is running (R149). -/
def Channel.upkeepRunning (ch : Channel) : Bool :=
  match ch.port.job with
  | some ⟨_, .inserted .upkeep _⟩ => true
  | _ => false

/-- Every value of the level image is known and equals the target's (R149). -/
def LevelImage.agrees (img : LevelImage) (t : Byte × Byte × Byte) : Bool :=
  img.bias == some t.1 && img.warm == some t.2.1 && img.write == some t.2.2

/-- Readiness (R149). -/
def Channel.ready (ch : Channel) : Bool :=
  ch.target.any ch.image.agrees && !ch.upkeepRunning

/-- The upkeep need: a target, and an image that does not agree with it (R150). -/
def Channel.upkeepNeed (ch : Channel) : Bool := ch.target.any fun t => !ch.image.agrees t

/-- The pending upkeep request: raised with the need, withdrawn with it, consumed by the grant (R150; log 12). -/
def Channel.upkeepRequest (ch : Channel) : Bool := ch.upkeepNeed && !ch.upkeepRunning

/-- The plan serves a record (R28). -/
def PlanState.serving : PlanState → Bool
  | .lead | .warm | .write | .fade => true
  | .parked | .halted | .rest | .wedge | .fault => false

/-- The channel is active: it has a live ACCEPTED or SHADOW record, or its plan is in LEAD, WARM, WRITE or
FADE (R142). -/
def Channel.active (ch : Channel) : Bool := ch.queue.any (·.served) || ch.plan.serving

/-- The energised head (R62). -/
def Channel.energised (ch : Channel) : Option Nat :=
  match ch.lvl with
  | .off => none
  | .bias | .warm | .write =>
    match ch.plan with
    | .warm | .write | .fade => ch.front.bind (·.head)
    | .lead | .rest | .wedge => if ch.lvl = .bias then ch.shadowHead else none
    | .parked | .halted | .fault => none

/-- The driven trim TRM_c: the held trim while LVL_c is WARM or WRITE, 0 otherwise (R29). -/
def Channel.trm (ch : Channel) : Int := if ch.lvl.heated then ch.heldTrim else 0

/-- The occupied slots (R167). -/
def Journal.occupied (j : Journal) : Nat := j.slots.countP (· == .occupied)

/-- The state of the slot the next-write index names (R164). -/
def Journal.nextSlot (j : Journal) : SlotState := j.slots.getD j.nextWrite.toNat .free

/-- The condition field: 0 running, 1 FAULT, 2 HALTED, 3 SHADOW mode (R58, R176). -/
def Channel.condition (ch : Channel) : Nat :=
  if ch.plan = .fault then 1 else if ch.plan = .halted then 2
  else if ch.set.mode = .shadow then 3 else 0

/-- The summary value as the byte that is written (R167, R176). -/
def Channel.summary (ch : Channel) : Byte :=
  BitVec.ofNat 8 (ch.jnl.occupied + 16 * ch.jnl.dropped.toNat + 32 * ch.wu.toNat + 64 * ch.condition)

/-- Record work: a pending record, and a free slot at the next-write index (R164). -/
def Channel.recordWork (ch : Channel) : Bool := !ch.jnl.pending.isEmpty && ch.jnl.nextSlot == .free

/-- Summary work: the summary value differs from the last one written (R164). -/
def Channel.summaryWork (ch : Channel) : Bool := ch.jnl.lastSummary != some ch.summary

/-- What an arbiter may grant (R137, R164). -/
inductive Work where
  | relayed
  | learning
  | upkeep
  | record
  | summary
  deriving DecidableEq, Repr

/-- The relayed frame for port `c` that waits in the slot (R137). -/
def waitingFrame (c : Chan) (slot : Option SlotFrame) : Option FrameKind :=
  match slot with
  | some f => if f.port = c then some f.kind else none
  | none => none

/-- The slot holds a protected frame for this channel's port (R14 test 4, R141). DEDUCED (log 17): while an
inserted sequence runs, the frame is judged against the page shadow that the sequence will restore, so that
it keeps one standing while it waits (R141) and every rise on a held frame's channel finds it held (R142). -/
def Channel.holdsProtected (c : Chan) (slot : Option SlotFrame) (ch : Channel) : Bool :=
  (waitingFrame c slot).any (protectedFrame ch.port.pageAtEnd)

/-- The relayed frame in the slot is eligible: learning is complete, and a protected frame finds the
channel not active (R137, R142). -/
def Channel.relayEligible (c : Chan) (slot : Option SlotFrame) (ch : Channel) : Bool :=
  (waitingFrame c slot).isSome && ch.port.learning == .complete
    && !(ch.holdsProtected c slot && ch.active)

/-- The arbiter's choice for a port at an instant: the first of the relayed frame, the learning sequence,
an upkeep sequence, a journal sequence that is waiting and eligible; none while the port is busy, and
none on a parked channel's port (R136, R137, R151, R164). -/
def Channel.arbiterChoice (c : Chan) (slot : Option SlotFrame) (ch : Channel) : Option Work :=
  if ch.parked ∨ ch.port.job.isSome then none
  else if ch.relayEligible c slot then some .relayed
  else if ch.port.learning = .queued then some .learning
  else if ch.port.learning ≠ .complete then none
  else if ch.upkeepRequest ∧ ¬ ch.active then some .upkeep
  else if ch.recordWork then some .record
  else if ch.summaryWork then some .summary
  else none

end Sys2Proof.Machine
end

