-- ==== Sys2Proof/Machine/HeatTrim.lean ====
section
/-! DEFINITION. The computations of the Heat Model (R60 to R70), of the Trim Unit (R74 to R81) and of the
Headroom Unit (R90 to R92). -/

namespace Sys2Proof.Machine

/-! ## Heat (R60 to R66) -/

/-- The period of a tick interval, 64 × 2^k quanta (R60). -/
def tickPeriodOf (k : BitVec 3) : Nat := 64 * 2 ^ k.toNat

/-- The energy of a head for an interval: its counts weighted (R64). -/
def energy (f : ChannelFields) (t : Tally) : Nat :=
  t.bias * f.wBias.toNat + t.warm * f.wWarm.toNat + t.write * f.wWrite.toNat

/-- The decay of a heat at a tick; never 0 while the heat and the setting are above 0 (R65, R66). -/
def decay (heat d : Nat) : Nat :=
  if 0 < heat ∧ 0 < d ∧ heat * d / 256 = 0 then 1 else heat * d / 256

/-- The accumulation of an energy at a tick (R65). -/
def accumulation (e g : Nat) : Nat := e * g / 65536

/-- The heat after a tick, saturated to 0..65535 (R65). -/
def heatAfter (heat d e g : Nat) : Nat := min 65535 (heat - decay heat d + accumulation e g)

/-- One head at a tick: its heat updated with its own g and d, its tally cleared (R63, R65). -/
def Head.tick (f : ChannelFields) (h : Head) : Head :=
  { h with
    heat := heatAfter h.heat (byteValue h.cal.d) (energy f h.tally) (byteValue h.cal.g)
    tally := {} }

/-- One quantum at a level, added to a head's counts (R63). -/
def Tally.count (l : Level) (t : Tally) : Tally :=
  match l with
  | .off => t
  | .bias => { t with bias := t.bias + 1 }
  | .warm => { t with warm := t.warm + 1 }
  | .write => { t with write := t.write + 1 }

/-- The quanta a head has collected in the interval in progress (R63). -/
def Tally.total (t : Tally) : Nat := t.bias + t.warm + t.write

/-! ## The effective reference (R69, R70) -/

/-- The ambient: the reading once it is set, A0 until then (R69). -/
def Channel.ambientNow (ch : Channel) : Nat :=
  if ch.ambientSet then ch.ambient.toNat else ch.set.a0.toNat

/-- The effective reference of a head, H_ref + (A − A0) × k_a clamped to 0..65535 (R70). -/
def Channel.effectiveReference (h : Option Nat) (ch : Channel) : Int :=
  clamp 0 65535
    (((ch.entry h).href.getD 0).toNat + ((ch.ambientNow : Int) - ch.set.a0.toNat) * ch.set.ka.toInt)

/-- H_ref_eff − H for a head, as both stand (R74, R77). -/
def Channel.coldness (h : Option Nat) (ch : Channel) : Int :=
  ch.effectiveReference h - ch.heatOf h

/-! ## Lead (R74, R75) -/

/-- The unclamped lead, L0 + floor((H_ref_eff − H) × u / 1024) (R74). -/
def Channel.rawLead (h : Option Nat) (ch : Channel) : Int :=
  ((ch.entry h).l0.getD 0 : Nat) + ch.coldness h * byteValue (ch.entry h).u / 1024

/-- The lead: first raised to Lmin, then lowered to D − 4 (R75). -/
def Channel.leadFor (delay : Nat) (h : Option Nat) (ch : Channel) : Nat :=
  (min ((delay : Int) - Config.guardQuanta) (max (byteValue (ch.entry h).lmin) (ch.rawLead h))).toNat

/-! ## Trim (R77 to R81) -/

/-- T_raw of a head, floor(((H_ref_eff − H) × s + 2048) / 4096) (R77). -/
def Channel.rawTrim (h : Option Nat) (ch : Channel) : Int :=
  (ch.coldness h * byteValue (ch.entry h).s + 2048) / 4096

/-- A fresh set for a record: T_raw clamped to −32..U (R79). -/
def Channel.freshTrim (r : BurstRecord) (ch : Channel) : Int := clamp (-32) r.upper (ch.rawTrim r.head)

/-- A drift update for a record: T_raw clamped to within 4 of the held trim, then to −32..U (R80). -/
def Channel.driftTrim (r : BurstRecord) (ch : Channel) : Int :=
  clamp (-32) r.upper (clamp (ch.heldTrim - 4) (ch.heldTrim + 4) (ch.rawTrim r.head))

/-- The TRIM_LIMIT detail of a raw trim against an upper bound, when it is out of range (R81). -/
def trimLimitDetail (raw upper : Int) : Option Byte :=
  if upper < raw then (if upper < 31 then some 1 else some 3)
  else if raw < -32 then some 2
  else none

/-! ## Headroom (R90 to R92) -/

/-- The maxbase of a head and band: the larger of its warm and write bases (R90). -/
def Channel.maxbase (h : Option Nat) (band : BitVec 3) (ch : Channel) : Nat :=
  max (byteValue ((ch.entry h).base band 1)) (byteValue ((ch.entry h).base band 2))

/-- The ceiling: the lesser of 31 and the available current less the maxbase (R91). -/
def ceilingFor (avail : Int) (maxbase : Nat) : Int := min 31 (avail - maxbase)

/-- The reservation after a NORMAL acceptance: the greater of its value and maxbase plus ceiling (R92). -/
def raisedReservation (res maxbase : Nat) (ceiling : Int) : Nat := max res ((maxbase : Int) + ceiling).toNat

end Sys2Proof.Machine
end

