-- ==== Sys2Proof/Machine/Ops.lean ====
section
/-! DEFINITION. The named operations over State: the channels, the journal's pending list (R162), the
driven level and the monitor that follows it (R101 to R103), the plan states and the outputs each drives
(R28), the burst queue (R9 to R11), truncation and refusal (R21, R23), and the reservation (R93). -/

namespace Sys2Proof.Machine

/-! ## Channels of the State -/

/-- The channel of that name. -/
def State.ch (c : Chan) (s : State) : Channel :=
  match c with
  | .a => s.chA
  | .b => s.chB

/-- A change of one channel. -/
def State.upd (c : Chan) (f : Channel → Channel) (s : State) : State :=
  match c with
  | .a => { s with chA := f s.chA }
  | .b => { s with chB := f s.chB }

/-- The other channel. -/
def otherChan (c : Chan) : Chan :=
  match c with
  | .a => .b
  | .b => .a

/-- The delay D of a channel (R4). -/
def State.delay (c : Chan) (s : State) : Nat := s.loaded.delay c

/-- The part is in neither of its resets (R174). -/
def State.running (s : State) : Bool := s.phase == .running

/-! ## Posting (R162) -/

/-- A pending record has the key of an event (R162, R175). -/
def PendingRecord.hasKey (k : EventKind) (head detail : Byte) (p : PendingRecord) : Bool :=
  p.kind == k && p.head == head && p.detail == detail

/-- One more event of a pending record's key; the count stays at 255 (R162). -/
def PendingRecord.again (p : PendingRecord) : PendingRecord := { p with count := min 255 (p.count + 1) }

/-- Posting an event: coalesced into the pending record of its key, appended as a new one, or dropped with
the dropped flag set (R162). -/
def Journal.post (k : EventKind) (head detail : Byte) (j : Journal) : Journal :=
  if j.pending.any (·.hasKey k head detail) then
    { j with pending := j.pending.map fun p => if p.hasKey k head detail then p.again else p }
  else if j.pending.length < Config.pendingDepth then
    { j with pending := j.pending ++ [⟨k, head, detail, 1⟩] }
  else { j with dropped := true }

/-- Posting an event to the channel's Journal. -/
def Channel.post (k : EventKind) (head detail : Byte) (ch : Channel) : Channel :=
  { ch with jnl := ch.jnl.post k head detail }

/-! ## The driven level and the plan states -/

/-- The Light Monitor at a change of the driven level: the start, the inside and the end of a heated
stretch (R101, R102, R103). -/
def Monitor.follow (old new : Level) (now period : Nat) (m : Monitor) : Monitor :=
  if new.heated then
    if old.heated then (if old = new then m else { m with since := 0 })
    else { m with due := some (now + period), since := 0 }
  else if old.heated then { m with due := none, low := 0, high := 0 }
  else m

/-- LVL_c goes to a level, and the monitor follows it (R100). -/
def Channel.drive (now : Nat) (l : Level) (ch : Channel) : Channel :=
  { ch with lvl := l, mon := ch.mon.follow ch.lvl l now ch.set.monPeriod }

/-- The plan enters a state: its level and held trim are set (R28, R29), and DWG_c is high exactly when
the level entered is WRITE (R19, R20). -/
def Channel.place (now : Nat) (p : PlanState) (l : Level) (trim : Int) (ch : Channel) : Channel :=
  { ch.drive now l with plan := p, heldTrim := trim, dwg := l == .write }

/-- The level a plan state drives for the record it serves (R28, R47). -/
def servedLevel (p : PlanState) (r : BurstRecord) : Level :=
  match p with
  | .warm | .fade => if r.isAccepted then .warm else .bias
  | .write => if r.isAccepted then .write else .bias
  | .lead => .bias
  | .parked | .halted | .rest | .wedge | .fault => .off

/-- Entry into REST (R30). -/
def Channel.enterRest (now : Nat) (ch : Channel) : Channel := ch.place now .rest ch.restLevel 0

/-- Entry into LEAD (R28). -/
def Channel.enterLead (now : Nat) (ch : Channel) : Channel := ch.place now .lead .bias 0

/-- Entry into FADE for the record written; the held trim is kept (R29, R37). -/
def Channel.enterFade (now : Nat) (r : BurstRecord) (ch : Channel) : Channel :=
  ch.place now .fade (servedLevel .fade r) ch.heldTrim

/-- The level WEDGE is entered with: OFF when the setting is OFF; else BIAS, but from REST only when the
REST level was BIAS (R41). -/
def Channel.wedgeLevel (fromRest : Bool) (ch : Channel) : Level :=
  match ch.set.wedge with
  | .off => .off
  | .bias => if fromRest && ch.lvl != .bias then .off else .bias

/-- Entry into WEDGE (R40, R41). -/
def Channel.enterWedge (now : Nat) (fromRest : Bool) (ch : Channel) : Channel :=
  ch.place now .wedge (ch.wedgeLevel fromRest) 0

/-- In REST the level follows the mode and the target from the instant either changes (R30). -/
def Channel.refreshRest (now : Nat) (ch : Channel) : Channel :=
  if ch.plan = .rest then ch.drive now ch.restLevel else ch

/-- TRIM_LIMIT for a trim computation whose raw trim is out of range (R81). -/
def Channel.reportLimit (r : BurstRecord) (ch : Channel) : Channel :=
  match trimLimitDetail (ch.rawTrim r.head) r.upper with
  | some d => ch.post .trimLimit (headCode r.head) d
  | none => ch

/-- Entry into WARM or WRITE for a record with a fresh set (R29, R79). -/
def Channel.enterFresh (now : Nat) (p : PlanState) (r : BurstRecord) (ch : Channel) : Channel :=
  (ch.reportLimit r).place now p (servedLevel p r) (ch.freshTrim r)

/-- Entry into WARM or WRITE for a record with the held trim kept under the hand-over clamp (R29). -/
def Channel.enterKept (now : Nat) (p : PlanState) (r : BurstRecord) (ch : Channel) : Channel :=
  ch.place now p (servedLevel p r) (clamp (-32) r.upper ch.heldTrim)

/-- A hand-over from the record `old` into WARM or WRITE for `r`: a fresh set from SHADOW to ACCEPTED, the
held trim with the hand-over clamp otherwise (R29, R34, R36, R37). -/
def Channel.handOver (now : Nat) (p : PlanState) (old r : BurstRecord) (ch : Channel) : Channel :=
  if old.isShadow && r.isAccepted then ch.enterFresh now p r else ch.enterKept now p r

/-! ## The burst queue and the reservation -/

/-- A change of the record made at the instant `rise`. -/
def Channel.updRecord (rise : Nat) (f : BurstRecord → BurstRecord) (ch : Channel) : Channel :=
  { ch with queue := ch.queue.map fun r => if r.rise = rise then f r else r }

/-- The reservation is released at the instant no live ACCEPTED record is left (R93). -/
def Channel.releaseIfQuiet (ch : Channel) : Channel :=
  if ch.queue.any (·.isAccepted) then ch else { ch with res := 0 }

/-- A record leaves the queue (R11), and the reservation with it when it was the last ACCEPTED one
(R93). -/
def Channel.leave (r : BurstRecord) (ch : Channel) : Channel :=
  Channel.releaseIfQuiet { ch with queue := ch.queue.filter (·.rise != r.rise) }

/-- The plan places itself after `old` has stopped being served and left: WARM for the next record when its
warm start has come, LEAD when it has not, REST when there is none (R38). -/
def Channel.placeAfter (now delay : Nat) (old : BurstRecord) (ch : Channel) : Channel :=
  match ch.front with
  | none => ch.enterRest now
  | some r => if hasCome now (r.warmStart delay) then ch.handOver now .warm old r else ch.enterLead now

/-- The minimum lead Lmin of a head, as it stands (R43). -/
def Channel.lminOf (h : Option Nat) (ch : Channel) : Nat := byteValue (ch.entry h).lmin

/-- SHORT_WARM, when the time left to the record's write start is below its head's Lmin (R43). -/
def Channel.reportShortWarm (now delay : Nat) (r : BurstRecord) (ch : Channel) : Channel :=
  if r.writeStart delay - now < ch.lminOf r.head then ch.post .shortWarm (headCode r.head) 0 else ch

/-- A re-aim (R43): the plan is placed from its front record. From WARM or WRITE the held trim is kept with
the hand-over clamp (log 10); from any other state SHORT_WARM is reported and the trim set fresh (R82). -/
def Channel.reaim (now delay : Nat) (ch : Channel) : Channel :=
  match ch.front with
  | none => ch.enterRest now
  | some r =>
    if hasCome now (r.warmStart delay) then
      if ch.plan = .warm ∨ ch.plan = .write then ch.enterKept now .warm r
      else (ch.reportShortWarm now delay r).enterFresh now .warm r
    else ch.enterLead now

/-- `r` is the record being written: the plan is in WRITE and serves it (R21). -/
def Channel.isWriting (r : BurstRecord) (ch : Channel) : Bool := ch.plan == .write && r.isThe ch.front

/-- A truncation of a live ACCEPTED or SHADOW record (R21): its outcome, DWG_c if the record is being
written, the TRUNCATED event, WU_c, and the reservation if no ACCEPTED record is left. -/
def Channel.truncate (now : Nat) (why : CutReason) (r : BurstRecord) (ch : Channel) : Channel :=
  let writing := ch.isWriting r
  let ch := ch.updRecord r.rise fun x => { x with outcome := .truncated why now }
  let ch := { ch with dwg := ch.dwg && !writing, wu := true }
  (ch.post .truncated (headCode r.head) why.code).releaseIfQuiet

/-- The record being written, if the plan is in WRITE, is truncated (R23 step 1, R26 step 1). -/
def Channel.truncateWriting (now : Nat) (why : CutReason) (ch : Channel) : Channel :=
  if ch.plan = .write then
    match ch.front with
    | some r => ch.truncate now why r
    | none => ch
  else ch

/-- A live ACCEPTED or SHADOW record becomes REFUSED; any other keeps its outcome (R8, R23). -/
def BurstRecord.refuse (why : RefuseReason) (r : BurstRecord) : BurstRecord :=
  if r.served then { r with outcome := .refused why } else r

/-- Every live ACCEPTED or SHADOW record becomes REFUSED, oldest first, each with its event; one whose write
end has passed leaves at once (R23 step 2, R11). -/
def Channel.refuseAll (why : RefuseReason) (ch : Channel) : Channel :=
  let posted := (ch.queue.filter (·.served)).foldl
    (fun x r => x.post .refused (headCode r.head) why.code) ch
  { posted with queue := (ch.queue.map (·.refuse why)).filter fun r => !r.endTaken }

/-- Entry into FAULT or HALTED, from the marking of the records on: laser OFF, trim 0, reservation 0, WU_c
high (R23, R49, R51, R94). -/
def Channel.shutDown (now : Nat) (p : PlanState) (cut : CutReason) (why : RefuseReason)
    (ch : Channel) : Channel :=
  let ch := (ch.truncateWriting now cut).refuseAll why
  { ch.place now p .off 0 with res := 0, wu := true }

/-- Entry into HALTED from whatever state but HALTED and PARKED (R49). -/
def Channel.enterHalted (now : Nat) (ch : Channel) : Channel :=
  if ch.plan = .halted ∨ ch.plan = .parked then ch else ch.shutDown now .halted .halt .halted

/-- Entry into FAULT at a declaration, from whatever state but PARKED, HALTED and FAULT: the Light
Monitor's event first, with the head of the front record (R51, R108). -/
def Channel.enterFault (now : Nat) (k : EventKind) (ch : Channel) : Channel :=
  if ch.plan = .parked ∨ ch.plan = .halted ∨ ch.plan = .fault then ch
  else (ch.post k (headCode (ch.front.bind (·.head))) 0).shutDown now .fault .fault .faulted

end Sys2Proof.Machine
end

