-- ==== Sys2Proof/Machine/WritePath.lean ====
section
/-! DEFINITION. The Write Path's commands: the gate filters' changes (R1 to R3), the acceptance decision
(R14 to R17), the fall (R10) and the stall cut (R24). -/

namespace Sys2Proof.Machine

/-- A gate filter takes a change: the raw line has held the level that the filter has not taken for 2 quanta
(R1, R3). -/
def filterReady (held : Nat) : Bool := Config.filterQuanta ≤ held

/-! ## Acceptance (R7, R14 to R17) -/

/-- The ceiling test 8 finds for a rise: the budget less the other channel's reservation, less the
maxbase of the captured head and band (R90, R91). -/
def Channel.riseCeiling (avail : Int) (ch : Channel) : Int :=
  ceilingFor avail (ch.maxbase ch.shadowHead ch.set.band)

/-- Tests 2 to 8 in their order (R14). `held`: the relay slot holds a protected frame for this channel's
port; `avail`: B less the other channel's reservation. -/
def Channel.refusal (held : Bool) (avail : Int) (ch : Channel) : Option RefuseReason :=
  if ch.set.mode = .halt ∨ ch.plan = .parked then some .halted
  else if ch.plan = .fault then some .faulted
  else if held then some .held
  else if ch.shadowHead = none then some .noHead
  else if ¬ (ch.entry ch.shadowHead).timingComplete ∨
      ¬ (ch.entry ch.shadowHead).bandPresent ch.set.band then some .tableIncomplete
  else if ¬ ch.ready then some .levelsNotReady
  else if ch.set.mode = .normal ∧ ch.riseCeiling avail < -32 then some .budget
  else none

/-- The record of a rise: what it captures whatever its outcome (R7). -/
def Channel.newRecord (now : Nat) (o : BurstOutcome) (ch : Channel) : BurstRecord :=
  { head := ch.shadowHead
    band := ch.set.band
    rise := now
    outcome := o
    stall := if ch.set.stallLimit = 0 then none else some ch.set.stallLimit }

/-- A refused rise posts REFUSED with its captured head and raises WU_c (R16, R17). -/
def Channel.postRefusal (why : RefuseReason) (ch : Channel) : Channel :=
  { ch.post .refused (headCode ch.shadowHead) why.code with wu := true }

/-- A new front record taken up from REST: LEAD, or WEDGE while the servo gate is high; in any other state
the new record waits (R31). -/
def Channel.enterService (now : Nat) (ch : Channel) : Channel :=
  if ch.plan = .rest then (if ch.sg then ch.enterWedge now true else ch.enterLead now) else ch

/-- An accepted rise (R15): the record with its lead and, in NORMAL, its ceiling and the raised
reservation (R92); WU_c falls (R13); the Planner looks at its state (R31). DEDUCED (log 18): a rise that
follows a restart of the same instant is judged and booked like any other (R18), though R99 says 0. -/
def Channel.accept (now delay : Nat) (avail : Int) (ch : Channel) : Channel :=
  let h := ch.shadowHead
  let lead := ch.leadFor delay h
  if ch.set.mode = .normal then
    let ceiling := ch.riseCeiling avail
    let r := { ch.newRecord now .accepted with lead := some lead, ceiling := some ceiling }
    Channel.enterService now
      { ch with
        queue := ch.queue ++ [r]
        res := raisedReservation ch.res (ch.maxbase h ch.set.band) ceiling
        wu := false }
  else
    let r := { ch.newRecord now .shadow with lead := some lead }
    Channel.enterService now { ch with queue := ch.queue ++ [r], wu := false }

/-- A filtered rise taken while the disregard mark is clear (R10, R14): test 1 refuses without a record
and sets the mark (R17); tests 2 to 8 make a REFUSED record (R16); otherwise the rise is accepted. -/
def Channel.judge (now delay : Nat) (held : Bool) (avail : Int) (ch : Channel) : Channel :=
  if Config.queueDepth ≤ ch.queue.length then { ch.postRefusal .queueFull with disregard := true }
  else
    match ch.refusal held avail with
    | some why =>
      { ch.postRefusal why with queue := ch.queue ++ [ch.newRecord now (.refused why)] }
    | none => ch.accept now delay avail

/-- A filtered upstream rise is taken: the filtered gate is low and the raw gate has held high for 2 quanta (R1). -/
def riseTaken (ch : Channel) : Bool := !ch.uwg && filterReady ch.uwgHeld

/-- The channel's part of an upstream rise (R2, R14). -/
def Channel.takeRise (now delay : Nat) (held : Bool) (avail : Int) (ch : Channel) : Channel :=
  let ch := { ch with uwg := true, uwgHeld := 0 }
  if ch.disregard then ch else ch.judge now delay held avail

/-- The current available to a channel: B less the other channel's reservation (R91). -/
def State.avail (c : Chan) (s : State) : Int := (s.loaded.budget : Int) - (s.ch (otherChan c)).res

/-- UPSTREAM_RISE (R14). -/
def execUpstreamRise (c : Chan) (s : State) : Host.Outcome State Fault Refusal :=
  if s.running && riseTaken (s.ch c) then
    .next (s.upd c (Channel.takeRise s.now (s.delay c) ((s.ch c).holdsProtected c s.slot) (s.avail c)))
  else .next s

/-! ## The fall (R2, R10) -/

/-- The fall of a record: known now, its stall timer removed (R10, R24). -/
def BurstRecord.setFall (now : Nat) (r : BurstRecord) : BurstRecord :=
  { r with fall := some (r.fall.getD now), stall := none }

/-- The newest record takes the fall (R10). -/
def setNewestFall (now : Nat) : List BurstRecord → List BurstRecord
  | [] => []
  | [r] => [r.setFall now]
  | r :: q => r :: setNewestFall now q

/-- The channel's part of an upstream fall: it clears the disregard mark, or is the fall of the newest
record (R2, R10). -/
def Channel.takeFall (now : Nat) (ch : Channel) : Channel :=
  let ch := { ch with uwg := false, uwgHeld := 0 }
  if ch.disregard then { ch with disregard := false }
  else { ch with queue := setNewestFall now ch.queue }

/-- A filtered upstream fall is taken: the filtered gate is high and the raw gate has held low for 2 quanta (R1). -/
def fallTaken (ch : Channel) : Bool := ch.uwg && filterReady ch.uwgHeld

/-- UPSTREAM_FALL (R10). -/
def execUpstreamFall (c : Chan) (s : State) : Host.Outcome State Fault Refusal :=
  if s.running && fallTaken (s.ch c) then .next (s.upd c (Channel.takeFall s.now)) else .next s

/-- The disregard mark was set at the reset's end and the filter has taken no rise since: the mark stands
while the filtered gate is low (R2). -/
def Channel.markFromReset (ch : Channel) : Bool := ch.disregard && !ch.uwg

/-- A mark set at a reset's end waits for the raw gate, which has not yet held high for 2 quanta (R2). -/
def Channel.markWaits (ch : Channel) : Bool := ch.markFromReset && !filterReady ch.uwgHeld

/-- RAW_GATE_RETURN_LOW: a mark set at a reset's end is cleared when the raw gate returns low before it has
held high for 2 quanta, and the filter's hold count starts again (R1, R2). -/
def execRawGateReturnLow (c : Chan) (s : State) : Host.Outcome State Fault Refusal :=
  if s.running && (s.ch c).markWaits then
    .next (s.upd c fun ch => { ch with disregard := false, uwgHeld := 0 })
  else .next s

/-! ## The stall cut (R24) -/

/-- The record whose stall timer has reached 0 (R24). -/
def Channel.stalled (ch : Channel) : Option BurstRecord := ch.queue.find? (·.stall == some 0)

/-- After the front record has been truncated by its cut, the plan in LEAD, WARM or WRITE re-aims; in
WEDGE it stays (R45, R46). -/
def Channel.afterCut (now delay : Nat) (ch : Channel) : Channel :=
  if ch.plan = .lead ∨ ch.plan = .warm ∨ ch.plan = .write then ch.reaim now delay else ch

/-- The stall cut of a record (R24): its fall is the cut instant, its timer goes, the disregard mark is
set, and an ACCEPTED or SHADOW record is truncated STALL. -/
def Channel.cut (now delay : Nat) (r : BurstRecord) (ch : Channel) : Channel :=
  let wasFront := r.isThe ch.front
  let ch := { ch.updRecord r.rise (·.setFall now) with disregard := true }
  if r.served then
    let ch := ch.truncate now .stall r
    if wasFront then ch.afterCut now delay else ch
  else ch

/-- STALL_CUT (R24): taken when a stall timer has reached 0 with the filtered gate high. -/
def execStallCut (c : Chan) (s : State) : Host.Outcome State Fault Refusal :=
  match (s.ch c).stalled with
  | some r =>
    if s.running && (s.ch c).uwg then .next (s.upd c (Channel.cut s.now (s.delay c) r)) else .next s
  | none => .next s

end Sys2Proof.Machine
end

