-- ==== Sys2Proof/Machine/Planner.lean ====
section
/-! DEFINITION. The Laser Planner's commands: servo changes (R40 to R43) and the expiries of a record
(R33 to R38). An expiry is taken once, when its instant has come (R32; log 9). -/

namespace Sys2Proof.Machine

/-! ## Servo changes -/

/-- The plan's part of a filtered servo rise (R40). -/
def Channel.servoUp (now : Nat) (ch : Channel) : Channel :=
  match ch.plan with
  | .write => (ch.truncateWriting now .servo).enterWedge now false
  | .warm | .lead => ch.enterWedge now false
  | .fade =>
    match ch.front with
    | some r => (ch.leave r).enterWedge now false
    | none => ch.enterWedge now false
  | .rest => ch.enterWedge now true
  | .wedge | .fault | .halted | .parked => ch

/-- A filtered servo rise is taken: the filtered gate is low and the raw gate has held high for 2 quanta (R3). -/
def servoRiseTaken (ch : Channel) : Bool := !ch.sg && filterReady ch.sgHeld

/-- SERVO_RISE (R40): a filtered rise of the servo gate (R3). -/
def execServoRise (c : Chan) (s : State) : Host.Outcome State Fault Refusal :=
  if s.running && servoRiseTaken (s.ch c) then
    .next (s.upd c fun ch => Channel.servoUp s.now { ch with sg := true, sgHeld := 0 })
  else .next s

/-- The plan's part of a filtered servo fall: in WEDGE it re-aims, elsewhere nothing (R42). -/
def Channel.servoDown (now delay : Nat) (ch : Channel) : Channel :=
  if ch.plan = .wedge then ch.reaim now delay else ch

/-- A filtered servo fall is taken: the filtered gate is high and the raw gate has held low for 2 quanta (R3). -/
def servoFallTaken (ch : Channel) : Bool := ch.sg && filterReady ch.sgHeld

/-- SERVO_FALL (R42): a filtered fall of the servo gate (R3). -/
def execServoFall (c : Chan) (s : State) : Host.Outcome State Fault Refusal :=
  if s.running && servoFallTaken (s.ch c) then
    .next (s.upd c fun ch =>
      Channel.servoDown s.now (s.delay c) { ch with sg := false, sgHeld := 0 })
  else .next s

/-! ## Warm start -/

/-- The warm start of a record is due: it has come and has not been taken (R5, R32). -/
def BurstRecord.warmDue (now delay : Nat) (r : BurstRecord) : Bool :=
  !r.warmTaken && hasCome now (r.warmStart delay)

/-- The Planner at the warm start of a record: of the front record in LEAD (R33), of the next record in FADE
(R34); no change otherwise. -/
def Channel.warmExpiry (now : Nat) (r : BurstRecord) (ch : Channel) : Channel :=
  if ch.plan = .lead ∧ r.isThe ch.front then ch.enterFresh now .warm r
  else if ch.plan = .fade ∧ r.isThe ch.nextUp then
    match ch.front with
    | some old => (ch.leave old).handOver now .warm old r
    | none => ch
  else ch

/-- The channel's part of a warm start. -/
def Channel.takeWarmStart (now : Nat) (r : BurstRecord) (ch : Channel) : Channel :=
  let ch := ch.updRecord r.rise fun x => { x with warmTaken := true }
  if r.served then ch.warmExpiry now r else ch

/-- WARM_START (R33, R34). -/
def execWarmStart (c : Chan) (rise : Nat) (s : State) : Host.Outcome State Fault Refusal :=
  match (s.ch c).recordAt rise with
  | some r =>
    if s.running && r.warmDue s.now (s.delay c) then .next (s.upd c (Channel.takeWarmStart s.now r))
    else .next s
  | none => .next s

/-! ## Write start -/

/-- The write start of a record is due (R5, R32). -/
def BurstRecord.startDue (now delay : Nat) (r : BurstRecord) : Bool :=
  !r.startTaken && decide (r.writeStart delay ≤ now)

/-- The Planner at the write start of an ACCEPTED or SHADOW record with the servo gate low (R35, R36): from
WARM with the held trim kept, from LEAD with a fresh set, from FADE by the hand-over. -/
def Channel.startWriting (now : Nat) (r : BurstRecord) (ch : Channel) : Channel :=
  if ch.plan = .warm ∧ r.isThe ch.front then
    ch.place now .write (servedLevel .write r) ch.heldTrim
  else if ch.plan = .lead ∧ r.isThe ch.front then ch.enterFresh now .write r
  else if ch.plan = .fade ∧ r.isThe ch.nextUp then
    match ch.front with
    | some old => (ch.leave old).handOver now .write old r
    | none => ch
  else ch

/-- The channel's part of a write start: a REFUSED or TRUNCATED record changes nothing else (R19); with the
servo gate high the record is truncated at its start (R22). -/
def Channel.takeWriteStart (now : Nat) (r : BurstRecord) (ch : Channel) : Channel :=
  let ch := ch.updRecord r.rise fun x => { x with startTaken := true }
  if r.served then
    if ch.sg then ch.truncate now .servo r else ch.startWriting now r
  else ch

/-- WRITE_START (R35). -/
def execWriteStart (c : Chan) (rise : Nat) (s : State) : Host.Outcome State Fault Refusal :=
  match (s.ch c).recordAt rise with
  | some r =>
    if s.running && r.startDue s.now (s.delay c) then .next (s.upd c (Channel.takeWriteStart s.now r))
    else .next s
  | none => .next s

/-! ## Write end -/

/-- The write end of a record is due (R5, R32). -/
def BurstRecord.endDue (now delay : Nat) (r : BurstRecord) : Bool :=
  !r.endTaken && hasCome now (r.writeEnd delay)

/-- The plan leaves WRITE at the write end of the record it writes (R37): WARM for the next record when its
warm start has come; FADE when the written record has a tail; the placement of a tail end otherwise. -/
def Channel.finishWrite (now delay : Nat) (r : BurstRecord) (ch : Channel) : Channel :=
  let tail := byteValue (ch.entry r.head).tail
  if (ch.nextUp.any fun n => hasCome now (n.warmStart delay)) || tail == 0 then
    (ch.leave r).placeAfter now delay r
  else
    (ch.updRecord r.rise fun x => { x with tailEnd := some (now + tail) }).enterFade now r

/-- The channel's part of a write end: the record being written is finished; a REFUSED or TRUNCATED one
leaves (R11, R37). -/
def Channel.takeWriteEnd (now delay : Nat) (r : BurstRecord) (ch : Channel) : Channel :=
  let ch := ch.updRecord r.rise fun x => { x with endTaken := true }
  if r.served then
    if ch.isWriting r then ch.finishWrite now delay r else ch
  else ch.leave r

/-- WRITE_END (R37). -/
def execWriteEnd (c : Chan) (rise : Nat) (s : State) : Host.Outcome State Fault Refusal :=
  match (s.ch c).recordAt rise with
  | some r =>
    if s.running && r.endDue s.now (s.delay c) then
      .next (s.upd c (Channel.takeWriteEnd s.now (s.delay c) r))
    else .next s
  | none => .next s

/-! ## Tail end -/

/-- The tail end of a record is due: the plan fades it, and its tail end has come (R38). -/
def Channel.tailDue (now : Nat) (r : BurstRecord) (ch : Channel) : Bool :=
  ch.plan == .fade && r.isThe ch.front && hasCome now r.tailEnd

/-- TAIL_END (R38). -/
def execTailEnd (c : Chan) (rise : Nat) (s : State) : Host.Outcome State Fault Refusal :=
  match (s.ch c).recordAt rise with
  | some r =>
    if s.running && (s.ch c).tailDue s.now r then
      .next (s.upd c fun ch => (ch.leave r).placeAfter s.now (s.delay c) r)
    else .next s
  | none => .next s

/-! ## Heat tick (R60, R65, R80) -/

/-- The drift update of a heat tick, in WARM and WRITE, from the heat the tick has left (R67, R80, R81). -/
def Channel.drift (ch : Channel) : Channel :=
  if ch.plan = .warm ∨ ch.plan = .write then
    match ch.front with
    | some r => { ch.reportLimit r with heldTrim := ch.driftTrim r }
    | none => ch
  else ch

/-- The channel's part of a heat tick: every head updated and the tally cleared (R65, R63), the next interval
begun with the prescale as it stands (R60, R61), then the drift update (R67). -/
def Channel.takeTick (now : Nat) (ch : Channel) : Channel :=
  let period := tickPeriodOf ch.set.prescale
  Channel.drift
    { ch with heads := ch.heads.map (Head.tick ch.set), tickPeriod := period, nextTick := now + period }

/-- HEAT_TICK (R60). -/
def execHeatTick (c : Chan) (s : State) : Host.Outcome State Fault Refusal :=
  if s.running && decide ((s.ch c).nextTick ≤ s.now) then .next (s.upd c (Channel.takeTick s.now))
  else .next s

/-! ## Monitor sample (R104 to R107) -/

/-- The counts after a counted reading (R105). -/
def Monitor.counted (reading : Reading) (m : Monitor) : Monitor :=
  match reading with
  | .low => { m with low := m.low + 1, high := 0 }
  | .inWindow => { m with low := 0, high := 0 }
  | .high => { m with low := 0, high := m.high + 1 }

/-- What a counted reading declares: light loss when a LOW brings the LOW count to N_loss or above, light
over when a HIGH brings the HIGH count to 2 (R106, R107). -/
def Monitor.declares (reading : Reading) (nLoss : Nat) (m : Monitor) : Option EventKind :=
  match reading with
  | .low => if nLoss ≤ m.low then some .lightLoss else none
  | .inWindow => none
  | .high => if Config.lightOverCount ≤ m.high then some .lightOver else none

/-- After any sample: one more sample since entry, at most 3, and the next sample due (R104). -/
def Monitor.scheduled (now period : Nat) (m : Monitor) : Monitor :=
  { m with since := min 3 (m.since + 1), due := some (now + period) }

/-- The channel's part of a sample (R104): a settle sample is discarded; a counted one acts on the counts,
as LOW when the inject arm is armed, which it disarms (R110), and may declare (R106 to R108). -/
def Channel.takeSample (now : Nat) (lines : BitVec 2) (ch : Channel) : Channel :=
  if ch.mon.since < ch.set.settle then { ch with mon := ch.mon.scheduled now ch.set.monPeriod }
  else
    let reading := if ch.mon.armed then .low else readingOf lines
    let m := ({ ch.mon with armed := false }).counted reading
    let ch' := { ch with mon := m.scheduled now ch.set.monPeriod }
    match m.declares reading ch.set.nLoss with
    | some k => ch'.enterFault now k
    | none => ch'

/-- MONITOR_SAMPLE (R104). DEDUCED (log 19): a sample is taken only while the timer runs, so a servo rise that is
taken first at its instant ends the stretch, and no sample is taken and nothing declared (R103, R111). R52's "either
order" is read of the instants at which a declaration is made, which finds WARM, WRITE or FADE (R108). -/
def execMonitorSample (c : Chan) (lines : BitVec 2) (s : State) : Host.Outcome State Fault Refusal :=
  if s.running && hasCome s.now (s.ch c).mon.due then .next (s.upd c (Channel.takeSample s.now lines))
  else .next s

end Sys2Proof.Machine
end

