-- ==== Sys2Proof/Machine/Relay.lean ====
section
/-! DEFINITION. The Arm Link Relay: the upstream frame and the relay slot (R131 to R135), the arbiter's
grants and the inserted sequences (R136 to R140), and the completion of a relayed frame with its delivery
(R143, R144), which the families of relayed writes and reads share. -/

namespace Sys2Proof.Machine

/-! ## The relay slot and RDY (R132) -/

/-- A frame enters the relay slot; RDY falls (R133, R134). -/
def State.fillSlot (f : SlotFrame) (s : State) : State := { s with slot := some f, rdy := false }

/-- The relay slot is emptied; RDY rises (R132). -/
def State.emptySlot (s : State) : State := { s with slot := none, rdy := true }

/-- A port falls free (R136). -/
def Channel.freePort (ch : Channel) : Channel := { ch with port := { ch.port with job := none } }

/-- The port carries the relayed frame in the slot (R136). -/
def Channel.carriesRelayed (ch : Channel) : Bool :=
  match ch.port.job with
  | some ⟨_, .relayed _⟩ => true
  | _ => false

/-! ## Upstream frames (R131 to R135) -/

/-- A frame begun under one active select with RDY high is received; any other is ignored to its end (R131,
R135). -/
def frameBegun (rdy selA selB : Bool) : Reception :=
  if rdy && selA != selB then .receiving (if selA then .a else .b) else .ignored

/-- UPSTREAM_FRAME_START (R131): taken while neither select is active; the lines are active low (R177). -/
def execUpstreamFrameStart (selA selB : Bool) (s : State) : Host.Outcome State Fault Refusal :=
  if s.reception = .idle ∧ (selectActive selA || selectActive selB) then
    .next { s with reception := frameBegun s.rdy (selectActive selA) (selectActive selB) }
  else .next s

/-- A received write frame enters the slot when it has at least 16 bits and its channel is not parked
(R133, R135). -/
def State.receiveWrite (c : Chan) (bits : List Bool) (s : State) : State :=
  let s := { s with reception := .idle }
  if 16 ≤ bits.length ∧ ¬ (s.ch c).parked ∧ s.slot = none then
    s.fillSlot ⟨c, .write (frameAddr bits) (frameData bits)⟩
  else s

/-- UPSTREAM_WRITE_END (R133): the frame ends; an ignored one ends without effect (R135). -/
def execUpstreamWriteEnd (bits : List Bool) (s : State) : Host.Outcome State Fault Refusal :=
  match s.reception with
  | .receiving c => if directionIs false bits then .next (s.receiveWrite c bits) else .next s
  | .ignored => .next { s with reception := .idle }
  | .idle | .reading _ | .delivering _ _ => .next s

/-- A read at its eighth bit enters the slot; one for a parked channel's port is answered with 0xFF and not
relayed (R134, R135). -/
def State.receiveRead (c : Chan) (bits : List Bool) (s : State) : State :=
  if (s.ch c).parked ∨ s.slot.isSome then { s with reception := .ignored }
  else { s.fillSlot ⟨c, .read (frameAddr bits) .held⟩ with reception := .reading c }

/-- UPSTREAM_READ_ADDRESS (R134). -/
def execUpstreamReadAddress (bits : List Bool) (s : State) : Host.Outcome State Fault Refusal :=
  match s.reception with
  | .receiving c =>
    if bits.length = 8 ∧ directionIs true bits then .next (s.receiveRead c bits) else .next s
  | .idle | .reading _ | .delivering _ _ | .ignored => .next s

/-- What a release or a second select does to the read in the slot: a waiting read is cancelled and the slot
emptied; one whose downstream frame has begun is marked and runs to its completion (R134). -/
def State.giveUpRead (c : Chan) (hold : ReadHold) (s : State) : State :=
  if (s.ch c).carriesRelayed then
    { s with slot := s.slot.map fun f =>
        match f.kind with
        | .read addr _ => { f with kind := .read addr hold }
        | .write _ _ => f }
  else s.emptySlot

/-- EARLY_RELEASE (R134): the select of a read is released before RDY has risen. -/
def execEarlyRelease (s : State) : Host.Outcome State Fault Refusal :=
  match s.reception with
  | .reading c => .next { s.giveUpRead c .released with reception := .idle }
  | .idle | .receiving _ | .delivering _ _ | .ignored => .next s

/-- DOUBLE_SELECT (R134, R135): a frame in reception is discarded; a read in the slot is given up; one
already delivered stays delivered, and SDO shows high from then on. -/
def execDoubleSelect (s : State) : Host.Outcome State Fault Refusal :=
  match s.reception with
  | .receiving _ => .next { s with reception := .ignored }
  | .reading c => .next { s.giveUpRead c .doubled with reception := .ignored }
  | .delivering _ _ => .next { s with reception := .ignored }
  | .idle | .ignored => .next s

/-- UPSTREAM_READ_END (R134, R135): the selects go inactive after the data has been delivered, before the
eighth bit, or at the end of an ignored frame. -/
def execUpstreamReadEnd (s : State) : Host.Outcome State Fault Refusal :=
  match s.reception with
  | .receiving _ | .delivering _ _ | .ignored => .next { s with reception := .idle }
  | .idle | .reading _ => .next s

/-! ## Grants and inserted sequences (R136 to R140) -/

/-- The arbiter's choice for a port, outside the resets (R137, R174). -/
def State.choice (c : Chan) (s : State) : Option Work :=
  if s.running then (s.ch c).arbiterChoice c s.slot else none

/-- The port takes up work whose first frame begins now (R136). -/
def Channel.startJob (now : Nat) (w : PortWork) (ch : Channel) : Channel :=
  { ch with port := { ch.port with job := some ⟨now, w⟩ } }

/-- The frames of a sequence whose content is written on a page: the content alone when the page shadow is
that page; else a page select, the content, and the restore (R140). With the shadow unknown, which the
arbiter rules out, there is nothing to restore (log 13). -/
def buildSequence (shadow : Option Nibble) (page : Nibble) (content : List InsertedFrame) :
    List InsertedFrame :=
  match shadow with
  | some p => if p = page then content else .selectPage page :: (content ++ [.selectPage p])
  | none => .selectPage page :: content

/-- RELAYED_FRAME_GRANT (R137): the downstream frame begins, decoded later against the page shadow as it
stands now (R143). -/
def execRelayedFrameGrant (c : Chan) (s : State) : Host.Outcome State Fault Refusal :=
  if s.choice c = some .relayed then
    .next (s.upd c fun ch => ch.startJob s.now (.relayed ch.port.page))
  else .next s

/-- The learning sequence is granted: reads of 0x7E and 0x7D (R139). -/
def Channel.startLearning (now : Nat) (ch : Channel) : Channel :=
  let ch := ch.startJob now (.inserted .learning [.readPage, .readHead])
  { ch with port := { ch.port with learning := .running } }

/-- LEARNING_SEQUENCE_GRANT (R139). -/
def execLearningSequenceGrant (c : Chan) (s : State) : Host.Outcome State Fault Refusal :=
  if s.choice c = some .learning then .next (s.upd c (Channel.startLearning s.now)) else .next s

/-- The inserted sequence whose current frame completes now, T_f after it began (R136). -/
def State.insertedDue (c : Chan) (s : State) : Option (SeqOwner × List InsertedFrame) :=
  match (s.ch c).port.job with
  | some ⟨began, .inserted owner frames⟩ =>
    if s.running && decide (began + s.loaded.frameTime ≤ s.now) then some (owner, frames) else none
  | _ => none

/-- At the end of a sequence its originator acts: learning is complete (R139); a record's slot becomes
occupied and the next-write index advances (R165); the last written summary becomes the byte written
(R167); an upkeep sequence has nothing more to do, the need being a function of the state (R153). -/
def Channel.endSequence (owner : SeqOwner) (ch : Channel) : Channel :=
  match owner with
  | .learning => { ch with port := { ch.port with learning := .complete } }
  | .upkeep => ch
  | .record n =>
    { ch with
      jnl := { ch.jnl with slots := ch.jnl.slots.set n.toNat .occupied, nextWrite := n + 1 } }
  | .summary v => { ch with jnl := { ch.jnl with lastSummary := some v } }

/-- After a frame of a sequence the next one begins at once, or the sequence ends and the port is free
(R136, R140). -/
def Channel.advance (now : Nat) (owner : SeqOwner) (rest : List InsertedFrame) (ch : Channel) : Channel :=
  match rest with
  | [] => ch.freePort.endSequence owner
  | _ :: _ => ch.startJob now (.inserted owner rest)

/-- The low 4 bits of a byte (R138). -/
def lowNibble (b : Byte) : Nibble := b.setWidth 4

/-- The page shadow is set (R138). -/
def Channel.setPage (p : Nibble) (ch : Channel) : Channel :=
  { ch with port := { ch.port with page := some p } }

/-- The head select shadow is set; in REST the level follows the target (R138, R30). -/
def Channel.setHeadSel (now : Nat) (n : Nibble) (ch : Channel) : Channel :=
  Channel.refreshRest now { ch with port := { ch.port with headSel := some n } }

/-- LEARNING_READ_COMPLETE (R139): the first read sets the page shadow, the second the head select shadow,
from the low 4 bits returned. -/
def execLearningReadComplete (c : Chan) (byte : Byte) (s : State) : Host.Outcome State Fault Refusal :=
  match s.insertedDue c with
  | some (owner, .readPage :: rest) =>
    if owner = .learning then .next (s.upd c fun ch => (ch.setPage (lowNibble byte)).advance s.now owner rest)
    else .next s
  | some (owner, .readHead :: rest) =>
    if owner = .learning then
      .next (s.upd c fun ch => (ch.setHeadSel s.now (lowNibble byte)).advance s.now owner rest)
    else .next s
  | _ => .next s

/-- INSERTED_PAGE_SELECT_COMPLETE (R140): the page select that opens a sequence, or the restore that closes
it, sets the page shadow. -/
def execInsertedPageSelectComplete (c : Chan) (s : State) : Host.Outcome State Fault Refusal :=
  match s.insertedDue c with
  | some (owner, .selectPage p :: rest) =>
    .next (s.upd c fun ch => (ch.setPage p).advance s.now owner rest)
  | _ => .next s

/-! ## The completion of a relayed frame (R136, R143, R144) -/

/-- The relayed frame that completes on a port now, T_f after it began, with the page shadow as it stood
then (R136, R143). -/
def State.relayedDue (c : Chan) (s : State) : Option (Option Nibble × FrameKind) :=
  match (s.ch c).port.job, waitingFrame c s.slot with
  | some ⟨began, .relayed page⟩, some kind =>
    if s.running && decide (began + s.loaded.frameTime ≤ s.now) then some (page, kind) else none
  | _, _ => none

/-- A relayed frame has completed: the slot is emptied, RDY rises, and the port is free (R133, R134). -/
def State.completeRelayed (c : Chan) (s : State) : State := s.emptySlot.upd c Channel.freePort

/-- The completion of a relayed write of one kind: its effect on the channel, decoded with its address and
data, and the slot emptied (R143). A write of another kind, or no write, makes no change (log 4). -/
def State.completeWrite (c : Chan) (k : WriteKind) (effect : Addr → Byte → Channel → Channel)
    (s : State) : State :=
  match s.relayedDue c with
  | some (page, .write addr data) =>
    if writeKind s.loaded.pageParam page addr data = k then
      (s.upd c (effect addr data)).completeRelayed c
    else s
  | _ => s

/-- The Heat Model's part of a completed read (R68). -/
def Channel.deliverTemperature (l : LoadedCopy) (addr : Addr) (byte : Byte) (ch : Channel) : Channel :=
  if isTemperature l ch.port.page addr then { ch with ambient := byte, ambientSet := true } else ch

/-- A slot read frees the slot when it is occupied (R166). -/
def Journal.freeSlot (n : BitVec 3) (j : Journal) : Journal :=
  if j.slots.getD n.toNat .free = .occupied then { j with slots := j.slots.set n.toNat .free } else j

/-- The Journal's part of a completed read of a slot's byte 3 (R166). -/
def Channel.deliverSlot (l : LoadedCopy) (addr : Addr) (ch : Channel) : Channel :=
  match slotRead l ch.port.page addr with
  | some n => { ch with jnl := ch.jnl.freeSlot n }
  | none => ch

/-- The Journal's part of a completed read of the summary: a byte that shows the dropped field clears the
flag (R168, R176). -/
def Channel.deliverSummary (l : LoadedCopy) (addr : Addr) (byte : Byte) (ch : Channel) : Channel :=
  if isSummary l ch.port.page addr && byte.getLsbD 4 then
    { ch with jnl := { ch.jnl with dropped := false } }
  else ch

/-- A read matching several registers is handed to each (R144). -/
def Channel.deliverRead (l : LoadedCopy) (addr : Addr) (byte : Byte) (ch : Channel) : Channel :=
  ((ch.deliverTemperature l addr byte).deliverSlot l addr).deliverSummary l addr byte

/-- The byte of a completed read is placed for SDO when its frame still waits for it, and dropped after an
early release or a double select (R134). -/
def receptionAfterRead (c : Chan) (byte : Byte) (r : Reception) : Reception :=
  match r with
  | .reading c' => if c' = c then .delivering c byte else r
  | .idle | .receiving _ | .delivering _ _ | .ignored => r

/-- The completion of a relayed read under one row of the table: delivered to every register it matches
unless it is doubly selected, its byte placed for SDO, the slot emptied (R134, R144). A read that is not
of that row, or no read, makes no change (log 4). -/
def State.completeRead (c : Chan) (k : ReadKind) (byte : Byte) (s : State) : State :=
  match s.relayedDue c with
  | some (_, .read addr hold) =>
    if readMatches s.loaded (s.ch c).port.page addr hold k then
      let s := if hold = .doubled then s else s.upd c (Channel.deliverRead s.loaded addr byte)
      { s.completeRelayed c with reception := receptionAfterRead c byte s.reception }
    else s
  | _ => s

/-- TEMPERATURE_READ (R68). -/
def execTemperatureRead (c : Chan) (byte : Byte) (s : State) : Host.Outcome State Fault Refusal :=
  .next (s.completeRead c .temperature byte)

/-- JOURNAL_SLOT_READ (R166). -/
def execJournalSlotRead (c : Chan) (byte : Byte) (s : State) : Host.Outcome State Fault Refusal :=
  .next (s.completeRead c .journalSlot byte)

/-- SUMMARY_READ (R168). -/
def execSummaryRead (c : Chan) (byte : Byte) (s : State) : Host.Outcome State Fault Refusal :=
  .next (s.completeRead c .summary byte)

/-- RELAYED_READ (R144). -/
def execRelayedRead (c : Chan) (byte : Byte) (s : State) : Host.Outcome State Fault Refusal :=
  .next (s.completeRead c .other byte)

/-! ## Relayed writes that belong to the Relay (R138, R143, R145) -/

/-- PAGE_SELECT_WRITE (R138): the page shadow takes the low 4 bits. -/
def execPageSelectWrite (c : Chan) (s : State) : Host.Outcome State Fault Refusal :=
  .next (s.completeWrite c .pageSelect fun _ data => Channel.setPage (lowNibble data))

/-- HEAD_SELECT_WRITE (R138, R156): the head select shadow takes the low 4 bits; the target, and the level
in REST, follow it. -/
def execHeadSelectWrite (c : Chan) (s : State) : Host.Outcome State Fault Refusal :=
  .next (s.completeWrite c .headSelect fun _ data => Channel.setHeadSel s.now (lowNibble data))

/-- The Journal at a preamplifier reset: every slot free, next-write 0, the dropped flag set, the last written
summary 0, and PREAMP_RESET_SEEN posted (R170). -/
def Journal.preampReset (j : Journal) : Journal :=
  Journal.post .preampResetSeen noHeadCode 0
    { j with slots := List.replicate 8 .free, nextWrite := 0, dropped := true, lastSummary := some 0 }

/-- What a preamplifier reset does to its channel: both shadows 0, the level image 0, 0 and 0, and the
Journal's part; in REST the level follows the target (R145, R158, R30). -/
def Channel.seePreampReset (now : Nat) (ch : Channel) : Channel :=
  Channel.refreshRest now
    { ch with
      port := { ch.port with page := some 0, headSel := some 0 }
      image := ⟨some 0, some 0, some 0⟩
      jnl := ch.jnl.preampReset }

/-- PREAMPLIFIER_RESET (R145). -/
def execPreamplifierReset (c : Chan) (s : State) : Host.Outcome State Fault Refusal :=
  .next (s.completeWrite c .preampReset fun _ _ => Channel.seePreampReset s.now)

/-- RELAYED_WRITE (R143): the preamplifier stores it; the part's own state changes only in the slot and the
port. -/
def execRelayedWrite (c : Chan) (s : State) : Host.Outcome State Fault Refusal :=
  .next (s.completeWrite c .other fun _ _ ch => ch)

end Sys2Proof.Machine
end

