-- ==== Sys2Proof/Machine/Table.lean ====
section
/-! DEFINITION. The Calibration Table's commands: decoded writes to the parameter page (R114 to R128), with
the acts that the command, mode and inject registers hand to other blocks (R48 to R50, R54, R55, R110). -/

namespace Sys2Proof.Machine

/-! ## Head fields (R116 to R118) -/

/-- A head field write directed by the head select shadow; in REST the level follows the target (R116,
R30). -/
def Channel.writeEntries (now : Nat) (f : HeadEntry → HeadEntry) (ch : Channel) : Channel :=
  Channel.refreshRest now { ch with heads := writeHeads ch.port.headSel f ch.heads }

/-- HEAD_FIELD_WRITE (R117). -/
def execHeadFieldWrite (c : Chan) (s : State) : Host.Outcome State Fault Refusal :=
  .next (s.completeWrite c .headField fun addr data =>
    Channel.writeEntries s.now (HeadEntry.writeByte addr data))

/-- LOW_BYTE_WRITE (R118). -/
def execLowByteWrite (c : Chan) (s : State) : Host.Outcome State Fault Refusal :=
  .next (s.completeWrite c .lowByte fun addr data =>
    Channel.writeEntries s.now (HeadEntry.writeLow addr data))

/-- HIGH_BYTE_WRITE (R118). -/
def execHighByteWrite (c : Chan) (s : State) : Host.Outcome State Fault Refusal :=
  .next (s.completeWrite c .highByte fun addr data =>
    Channel.writeEntries s.now (HeadEntry.writeHigh addr data))

/-! ## Channel fields (R122 to R126) -/

/-- A change of the channel fields. -/
def Channel.setFields (f : ChannelFields → ChannelFields) (ch : Channel) : Channel :=
  { ch with set := f ch.set }

/-- BAND_SELECT_WRITE (R122): the low 3 bits; in REST the level follows the target. -/
def execBandSelectWrite (c : Chan) (s : State) : Host.Outcome State Fault Refusal :=
  .next (s.completeWrite c .bandSelect fun _ data ch =>
    Channel.refreshRest s.now (ch.setFields fun f => { f with band := data.setWidth 3 }))

/-- A write of a weight, the prescale, A0 or k_a (R124). -/
def ChannelFields.writeHeat (addr : Addr) (data : Byte) (f : ChannelFields) : ChannelFields :=
  if addr = 0x42 then { f with wBias := data }
  else if addr = 0x43 then { f with wWarm := data }
  else if addr = 0x44 then { f with wWrite := data }
  else if addr = 0x45 then { f with prescale := data.setWidth 3 }
  else if addr = 0x46 then { f with a0 := data }
  else if addr = 0x47 then { f with ka := data }
  else f

/-- HEAT_SETTING_WRITE (R124). -/
def execHeatSettingWrite (c : Chan) (s : State) : Host.Outcome State Fault Refusal :=
  .next (s.completeWrite c .heatSetting fun addr data =>
    Channel.setFields (ChannelFields.writeHeat addr data))

/-- A write of the monitor register: period code in bits 7..6, N_loss in bits 5..2 with 0 taken as 1, settle
in bits 1..0 (R125). -/
def ChannelFields.writeMonitor (data : Byte) (f : ChannelFields) : ChannelFields :=
  { f with
    monPeriod := 32 * 2 ^ (data.toNat / 64)
    nLoss := max 1 (data.toNat / 4 % 16)
    settle := data.toNat % 4 }

/-- MONITOR_REGISTER_WRITE (R125). -/
def execMonitorRegisterWrite (c : Chan) (s : State) : Host.Outcome State Fault Refusal :=
  .next (s.completeWrite c .monitorRegister fun _ data =>
    Channel.setFields (ChannelFields.writeMonitor data))

/-- The stall limit a byte gives: 0 for 0, 8 for 1..7, else the byte (R125). -/
def stallLimitOf (data : Byte) : Nat := if data = 0 then 0 else max 8 data.toNat

/-- STALL_LIMIT_WRITE (R125). -/
def execStallLimitWrite (c : Chan) (s : State) : Host.Outcome State Fault Refusal :=
  .next (s.completeWrite c .stallLimit fun _ data =>
    Channel.setFields fun f => { f with stallLimit := stallLimitOf data })

/-- WEDGE_LEVEL_WRITE (R126): bit 0, 0 BIAS and 1 OFF. -/
def execWedgeLevelWrite (c : Chan) (s : State) : Host.Outcome State Fault Refusal :=
  .next (s.completeWrite c .wedgeLevel fun _ data =>
    Channel.setFields fun f => { f with wedge := if data.getLsbD 0 then .off else .bias })

/-! ## Mode (R48 to R50, R123) -/

/-- The Planner at a mode write of NORMAL or SHADOW: it ends a halt into REST (R50), and in REST the level
follows the mode (R48, R30). -/
def Channel.setRunMode (now : Nat) (m : Mode) (ch : Channel) : Channel :=
  let ch := ch.setFields fun f => { f with mode := m }
  if ch.plan = .halted then ch.enterRest now else ch.refreshRest now

/-- The Planner at a mode write of HALT (R49). -/
def Channel.setHalt (now : Nat) (ch : Channel) : Channel :=
  (ch.setFields fun f => { f with mode := .halt }).enterHalted now

/-- MODE_WRITE_HALT (R49). -/
def execModeWriteHalt (c : Chan) (s : State) : Host.Outcome State Fault Refusal :=
  .next (s.completeWrite c .modeHalt fun _ _ => Channel.setHalt s.now)

/-- MODE_WRITE_NORMAL (R48, R50). -/
def execModeWriteNormal (c : Chan) (s : State) : Host.Outcome State Fault Refusal :=
  .next (s.completeWrite c .modeNormal fun _ _ => Channel.setRunMode s.now .normal)

/-- MODE_WRITE_SHADOW (R48, R50). -/
def execModeWriteShadow (c : Chan) (s : State) : Host.Outcome State Fault Refusal :=
  .next (s.completeWrite c .modeShadow fun _ _ => Channel.setRunMode s.now .shadow)

/-! ## Commands (R26, R54, R55, R127) -/

/-- A fault clear: only in FAULT (R54). -/
def Channel.clearFault (now : Nat) (ch : Channel) : Channel :=
  if ch.plan = .fault then
    let ch := ch.enterRest now
    Channel.post .faultCleared noHeadCode 0
      { ch with mon := { ch.mon with low := 0, high := 0 }, wu := false }
  else ch

/-- FAULT_CLEAR (R54). -/
def execFaultClear (c : Chan) (s : State) : Host.Outcome State Fault Refusal :=
  .next (s.completeWrite c .faultClear fun _ _ => Channel.clearFault s.now)

/-- A channel restart, in every state but PARKED (R26, R55): the record being written truncated RESTART,
every record gone, REST, the monitor's counts and arm cleared, the reservation released, WU_c low, the
disregard mark set while the filtered gate is high, RESTARTED posted; with the mode still HALT the channel
halts again (R50). A rise taken after it at the same instant is judged on the empty queue (R18; DEDUCED,
log 18). -/
def Channel.restart (now : Nat) (ch : Channel) : Channel :=
  if ch.plan = .parked then ch
  else
    let ch := ch.truncateWriting now .restart
    let ch := Channel.enterRest now { ch with queue := [] }
    let ch := Channel.post .restarted noHeadCode 0
      { ch with
        mon := { ch.mon with low := 0, high := 0, armed := false }
        res := 0
        wu := false
        disregard := ch.disregard || ch.uwg }
    if ch.set.mode = .halt then ch.enterHalted now else ch

/-- CHANNEL_RESTART (R26, R55). -/
def execChannelRestart (c : Chan) (s : State) : Host.Outcome State Fault Refusal :=
  .next (s.completeWrite c .channelRestart fun _ _ => Channel.restart s.now)

/-! ## Inject (R110, R128) -/

/-- An inject write: bit 0 going from 0 to 1 arms the inject; the memory takes bit 0 (R128). -/
def Channel.inject (bit : Bool) (ch : Channel) : Channel :=
  { ch with
    mon := { ch.mon with armed := ch.mon.armed || (bit && !ch.injectMemory) }
    injectMemory := bit }

/-- INJECT_WRITE (R128). -/
def execInjectWrite (c : Chan) (s : State) : Host.Outcome State Fault Refusal :=
  .next (s.completeWrite c .inject fun _ data => Channel.inject (data.getLsbD 0))

end Sys2Proof.Machine
end

