-- ==== Sys2Proof/Machine/Upkeep.lean ====
section
/-! DEFINITION. The Upkeep Unit's commands: the controller's level register writes (R155), the upkeep
sequence and its writes (R152, R153). -/

namespace Sys2Proof.Machine

/-- A level register takes a byte in the image: 0x10 BIAS, 0x11 WARM, 0x12 WRITE (R147). -/
def LevelImage.write1 (addr : Addr) (data : Byte) (img : LevelImage) : LevelImage :=
  if addr = 0x10 then { img with bias := some data }
  else if addr = 0x11 then { img with warm := some data }
  else if addr = 0x12 then { img with write := some data }
  else img

/-- The level image takes a byte written to a level register (R147). -/
def Channel.imageWrite (addr : Addr) (data : Byte) (ch : Channel) : Channel :=
  { ch with image := ch.image.write1 addr data }

/-- LEVEL_REGISTER_WRITE (R155). -/
def execLevelRegisterWrite (c : Chan) (s : State) : Host.Outcome State Fault Refusal :=
  .next (s.completeWrite c .levelRegister Channel.imageWrite)

/-- A content write for one register, left out when the image already equals the target (R152). -/
def upkeepWrite (addr : Addr) (image : Option Byte) (target : Byte) : List InsertedFrame :=
  if image = some target then [] else [.content addr target]

/-- The content frames of an upkeep sequence, in the order BIAS, WARM, WRITE (R152). -/
def upkeepContent (img : LevelImage) (t : Byte × Byte × Byte) : List InsertedFrame :=
  upkeepWrite 0x10 img.bias t.1 ++ upkeepWrite 0x11 img.warm t.2.1 ++ upkeepWrite 0x12 img.write t.2.2

/-- The upkeep sequence begins, fixed from the target and the image as they stand, on page 1 (R152). -/
def Channel.startUpkeep (now : Nat) (ch : Channel) : Channel :=
  match ch.target with
  | some t =>
    ch.startJob now (.inserted .upkeep (buildSequence ch.port.page 1 (upkeepContent ch.image t)))
  | none => ch

/-- UPKEEP_SEQUENCE_GRANT (R152). -/
def execUpkeepSequenceGrant (c : Chan) (s : State) : Host.Outcome State Fault Refusal :=
  if s.choice c = some .upkeep then .next (s.upd c (Channel.startUpkeep s.now)) else .next s

/-- UPKEEP_WRITE_COMPLETE (R153): the image value of that register becomes the byte written, known. -/
def execUpkeepWriteComplete (c : Chan) (s : State) : Host.Outcome State Fault Refusal :=
  match s.insertedDue c with
  | some (.upkeep, .content addr data :: rest) =>
    .next (s.upd c fun ch => (ch.imageWrite addr data).advance s.now .upkeep rest)
  | _ => .next s

end Sys2Proof.Machine
end

