-- ==== Sys2Proof/Machine/JournalUnit.lean ====
section
/-! DEFINITION. The Journal's commands: the record sequence (R165), the summary sequence (R167), and the
completion of their content writes. -/

namespace Sys2Proof.Machine

/-- The address of byte i of slot n on P_j (R165, Layouts "Journal page P_j"). -/
def slotAddr (n : BitVec 3) (i : Nat) : Addr := BitVec.ofNat 7 (4 * n.toNat + i)

/-- The four content writes of a record into slot n (R165, R175). -/
def recordContent (n : BitVec 3) (p : PendingRecord) : List InsertedFrame :=
  [.content (slotAddr n 0) p.kind.code, .content (slotAddr n 1) p.head,
    .content (slotAddr n 2) p.detail, .content (slotAddr n 3) (BitVec.ofNat 8 p.count)]

/-- The record sequence begins: the oldest pending record is removed, the slot at next-write is filling, and
the content is fixed on page P_j (R165). -/
def Channel.startRecord (now : Nat) (pageJournal : Nibble) (ch : Channel) : Channel :=
  match ch.jnl.pending with
  | p :: rest =>
    let n := ch.jnl.nextWrite
    let ch := { ch with jnl := { ch.jnl with pending := rest, slots := ch.jnl.slots.set n.toNat .filling } }
    ch.startJob now (.inserted (.record n) (buildSequence ch.port.page pageJournal (recordContent n p)))
  | [] => ch

/-- RECORD_SEQUENCE_GRANT (R165). -/
def execRecordSequenceGrant (c : Chan) (s : State) : Host.Outcome State Fault Refusal :=
  if s.choice c = some .record then .next (s.upd c (Channel.startRecord s.now s.loaded.pageJournal))
  else .next s

/-- The summary sequence begins: one content write of the summary value as it stands, to 0x20 on P_j
(R167). -/
def Channel.startSummary (now : Nat) (pageJournal : Nibble) (ch : Channel) : Channel :=
  ch.startJob now
    (.inserted (.summary ch.summary) (buildSequence ch.port.page pageJournal [.content 0x20 ch.summary]))

/-- SUMMARY_SEQUENCE_GRANT (R167). -/
def execSummarySequenceGrant (c : Chan) (s : State) : Host.Outcome State Fault Refusal :=
  if s.choice c = some .summary then .next (s.upd c (Channel.startSummary s.now s.loaded.pageJournal))
  else .next s

/-- JOURNAL_WRITE_COMPLETE (R165, R167): a content write reaches the preamplifier's scratch; the sequence goes
on, or ends. -/
def execJournalWriteComplete (c : Chan) (s : State) : Host.Outcome State Fault Refusal :=
  match s.insertedDue c with
  | some (.record n, .content _ _ :: rest) =>
    .next (s.upd c fun ch => ch.advance s.now (.record n) rest)
  | some (.summary v, .content _ _ :: rest) =>
    .next (s.upd c fun ch => ch.advance s.now (.summary v) rest)
  | _ => .next s

end Sys2Proof.Machine
end

