-- ==== Sys2Proof/Machine/Resets.lean ====
section
/-! DEFINITION. The resets: power-on with the option load, and the line reset (R27, R57, R72, R89, R113, R130,
R146, R159, R170, R171, R174). -/

namespace Sys2Proof.Machine

/-- A channel held in reset: every block in its reset state, its table with an empty entry for each configured
head, nothing learned, nothing pending (R174). DESIGN CHOICE (log 8): the tick timer, which restarts at the reset's
end (R72), holds no instant (0) and the period 256 till then. -/
def Channel.held (heads : Nat) : Channel :=
  { plan := if heads = 0 then .parked else .rest, heads := List.replicate heads {} }

/-- Every block is put into its reset state and the outputs to their reset levels: the slot empty, RDY low, the
ports' frames ended (R146, R174). -/
def State.hold (s : State) : State :=
  { s with
    slot := none
    rdy := false
    chA := Channel.held s.loaded.headsA
    chB := Channel.held s.loaded.headsB }

/-- A reset ends: both channels start, and RDY rises (R174). -/
def State.endReset (uwgA uwgB : Bool) (detail : Byte) (s : State) : State :=
  { s with
    phase := .running
    slot := none
    rdy := true
    chA := Channel.started s.loaded.headsA s.now uwgA detail
    chB := Channel.started s.loaded.headsB s.now uwgB detail }

/-- POWER_ON (R174): every block is held in reset and the option load begins; it completes 32 quanta later. No
upstream frame is in reception (R146). DESIGN CHOICE (log 8): till the load completes the loaded copy and the load
status keep their former values. -/
def execPowerOn (s : State) : Host.Outcome State Fault Refusal :=
  .next { s.hold with phase := .loading (s.now + Config.loadQuanta), reception := .idle }

/-- The loaded copy and the load status are formed from the eight bytes (R171). -/
def State.load (s : State) : State :=
  { s with loaded := loadOptions s.optionBytes, loadStatus := loadStatusOf s.optionBytes }

/-- OPTION_LOAD_COMPLETE (R171, R174): with RSTn high it ends the power-on; with RSTn low the part stays in
reset until RSTn rises. -/
def execOptionLoadComplete (uwgA uwgB : Bool) (s : State) : Host.Outcome State Fault Refusal :=
  match s.phase with
  | .loading due =>
    if due ≤ s.now then
      let s := s.load
      if s.rstn then .next (s.endReset uwgA uwgB s.loadStatus.startedDetail)
      else .next { s.hold with phase := .loadDone }
    else .next s
  | .loadDone | .lineReset | .running => .next s

/-- An upstream frame in reception at a line reset is discarded and ignored to its end (R146). -/
def Reception.cutByReset : Reception → Reception
  | .idle => .idle
  | .receiving _ | .reading _ | .delivering _ _ | .ignored => .ignored

/-- RSTN_FALL (R27, R174): after a power-on has ended it starts a line reset; during one it holds the part in
reset when the load is done. -/
def execRstnFall (s : State) : Host.Outcome State Fault Refusal :=
  match s.phase with
  | .running =>
    .next { s.hold with rstn := false, phase := .lineReset, reception := s.reception.cutByReset }
  | .loading _ | .loadDone | .lineReset => .next { s with rstn := false }

/-- RSTN_RISE (R174): it ends a line reset, with STARTED detail 0, or a power-on whose load is done, with the
detail of that load (R170); during the load the power-on goes on. -/
def execRstnRise (uwgA uwgB : Bool) (s : State) : Host.Outcome State Fault Refusal :=
  let up := { s with rstn := true }
  match s.phase with
  | .lineReset => .next (up.endReset uwgA uwgB 0)
  | .loadDone => .next (up.endReset uwgA uwgB s.loadStatus.startedDetail)
  | .loading _ | .running => .next up

end Sys2Proof.Machine
end

