-- ==== Sys2Proof/Machine/Outputs.lean ====
section
/-! DEFINITION. The part's lines that are functions of its state: LVL_c and TRM_c (R29, R177), DWD_c (R4),
DSEL_c and the frame on a port (R136, R177), SDO (R131, R134). DWG_c, WU_c and RDY are fields. -/

namespace Sys2Proof.Machine

/-- LVL_c[1:0] (R177). -/
def Channel.lvlLines (ch : Channel) : BitVec 2 := ch.lvl.lines

/-- TRM_c[5:0], the driven trim in two's complement (R177). -/
def Channel.trmLines (ch : Channel) : BitVec 6 := BitVec.ofInt 6 ch.trm

/-- DWD_c through the quantum that begins now, true for DWD_c+ high: idle, low, until the delay line of D + 2
quanta has filled, and from then on the data of D + 2 quanta before (R4). -/
def Channel.dwd (delay : Nat) (ch : Channel) : Bool := (ch.delayLine[delay + 1]?).getD false

/-- DSEL_c is active while the port carries a frame (R136). DESIGN CHOICE (log 20): it stays active from one frame of an
inserted sequence to the next, where the spec gives no level. -/
def Channel.dselActive (ch : Channel) : Bool := ch.port.job.isSome

/-- The level of the line DSEL_c, active low (R177). -/
def Channel.dselLine (ch : Channel) : Bool := selectLine ch.dselActive

/-- The sixteen bits DDI_c carries for an inserted frame; `idle` is its level through the data bits of a read,
which are the preamplifier's on DDO_c (R134, R136, R139; log 14). -/
def InsertedFrame.bits (idle : Byte) : InsertedFrame → List Bool
  | .readPage => frameBits true 0x7E idle
  | .readHead => frameBits true 0x7D idle
  | .selectPage p => frameBits false 0x7E (p.setWidth 8)
  | .content addr data => frameBits false addr data

/-- The sixteen bits DDI_c carries for a relayed frame: those of the upstream write, or the direction and
address of the upstream read and then `idle`, its level through the data bits (R133, R134; log 14). -/
def FrameKind.bits (idle : Byte) : FrameKind → List Bool
  | .write addr data => frameBits false addr data
  | .read addr _ => frameBits true addr idle

/-- The frame in progress on a port, as DDI_c carries it (R136). DESIGN CHOICE (log 14): through the data bits
of a read the level of DDI_c, which the spec does not give, is free. -/
def State.portFrame (c : Chan) (s : State) : Option (List Bool) :=
  match (s.ch c).port.job with
  | some ⟨began, .relayed _⟩ => (waitingFrame c s.slot).map (·.bits (Config.ddiThroughData c began))
  | some ⟨began, .inserted _ frames⟩ => frames.head?.map (·.bits (Config.ddiThroughData c began))
  | none => none

/-- The byte the controller clocks out of SDO: the byte of a read that has been served, and 0xFF otherwise,
SDO being high (R131, R134). -/
def State.sdoByte (s : State) : Byte :=
  match s.reception with
  | .delivering _ byte => byte
  | .idle | .receiving _ | .reading _ | .ignored => 0xFF

end Sys2Proof.Machine
end

