-- ==== Sys2Proof/Machine/Clock.lean ====
section
/-! DEFINITION. What the part does with no command waiting (log 1): its own events that are due at the present
instant, and the passing of one quantum. -/

namespace Sys2Proof.Machine

/-- The tally takes the quantum that begins now: the energised head's count for the level driven (R62, R63). -/
def Channel.tallyQuantum (ch : Channel) : List Head :=
  match ch.energised with
  | some h => ch.heads.modify h fun x => { x with tally := x.tally.count ch.lvl }
  | none => ch.heads

/-- A stall timer counts down by one at each quantum while the gate stays high (R24). -/
def BurstRecord.stallQuantum (r : BurstRecord) : BurstRecord := { r with stall := r.stall.map (· - 1) }

/-- A gate filter's hold count after a quantum: one more while the raw line stands at the level that the filter has
not taken, and 0 as soon as it stands at the filtered level, a short excursion being ignored (R1, R3). -/
def heldAfter (filtered raw : Bool) (held : Nat) : Nat := if raw = filtered then 0 else held + 1

/-- One quantum passes on a channel: the gate filters follow their raw lines (R1, R3), the tally, the stall timers,
the delay line (R4, R24, R63). -/
def Channel.passQuantum (c : Chan) (now delay : Nat) (ch : Channel) : Channel :=
  { ch with
    uwgHeld := heldAfter ch.uwg (Config.rawGate c now) ch.uwgHeld
    sgHeld := heldAfter ch.sg (Config.rawServo c now) ch.sgHeld
    heads := ch.tallyQuantum
    queue := if ch.uwg then ch.queue.map (·.stallQuantum) else ch.queue
    delayLine := (Config.writeData c now :: ch.delayLine).take (delay + 2) }

/-- One quantum passes. In a reset only the count of quanta moves (R27, R60, R63). -/
def State.passQuantum (s : State) : State :=
  if s.running then
    { s with
      now := s.now + 1
      chA := s.chA.passQuantum .a s.now s.loaded.delayA
      chB := s.chB.passQuantum .b s.now s.loaded.delayB }
  else { s with now := s.now + 1 }

/-- The expiries of one record that are due (R5, R33 to R38). -/
def BurstRecord.dueEvents (c : Chan) (now delay : Nat) (ch : Channel) (r : BurstRecord) : List Instr :=
  (if r.warmDue now delay then [.warmStart c r.rise] else [])
    ++ (if r.startDue now delay then [.writeStart c r.rise] else [])
    ++ (if r.endDue now delay then [.writeEnd c r.rise] else [])
    ++ (if ch.tailDue now r then [.tailEnd c r.rise] else [])

/-- The row of the table under which a completed relayed write falls (R143). -/
def WriteKind.command (c : Chan) : WriteKind → Instr
  | .pageSelect => .pageSelectWrite c
  | .headSelect => .headSelectWrite c
  | .preampReset => .preamplifierReset c
  | .levelRegister => .levelRegisterWrite c
  | .headField => .headFieldWrite c
  | .lowByte => .lowByteWrite c
  | .highByte => .highByteWrite c
  | .bandSelect => .bandSelectWrite c
  | .modeNormal => .modeWriteNormal c
  | .modeShadow => .modeWriteShadow c
  | .modeHalt => .modeWriteHalt c
  | .heatSetting => .heatSettingWrite c
  | .monitorRegister => .monitorRegisterWrite c
  | .stallLimit => .stallLimitWrite c
  | .wedgeLevel => .wedgeLevelWrite c
  | .faultClear => .faultClear c
  | .channelRestart => .channelRestart c
  | .inject => .injectWrite c
  | .other => .relayedWrite c

/-- The row of the table under which a completed relayed read falls, the first it matches (R144). -/
def readCommand (c : Chan) (byte : Byte) (l : LoadedCopy) (page : Option Nibble) (addr : Addr)
    (hold : ReadHold) : Instr :=
  if readMatches l page addr hold .temperature then .temperatureRead c byte
  else if readMatches l page addr hold .journalSlot then .journalSlotRead c byte
  else if readMatches l page addr hold .summary then .summaryRead c byte
  else .relayedRead c byte

/-- The row under which a completed inserted frame falls (R139, R140, R153, R165, R167). -/
def insertedCommand (c : Chan) (byte : Byte) (owner : SeqOwner) (f : InsertedFrame) : List Instr :=
  match f, owner with
  | .readPage, .learning => [.learningReadComplete c byte]
  | .readHead, .learning => [.learningReadComplete c byte]
  | .readPage, .upkeep | .readPage, .record _ | .readPage, .summary _ => []
  | .readHead, .upkeep | .readHead, .record _ | .readHead, .summary _ => []
  | .selectPage _, _ => [.insertedPageSelectComplete c]
  | .content _ _, .upkeep => [.upkeepWriteComplete c]
  | .content _ _, .record _ => [.journalWriteComplete c]
  | .content _ _, .summary _ => [.journalWriteComplete c]
  | .content _ _, .learning => []

/-- The frame completion that is due on a port (R136). -/
def State.portEvents (c : Chan) (s : State) : List Instr :=
  match s.relayedDue c with
  | some (page, .write addr data) => [(writeKind s.loaded.pageParam page addr data).command c]
  | some (_, .read addr hold) =>
    [readCommand c (Config.returnedByte c s.now) s.loaded (s.ch c).port.page addr hold]
  | none =>
    match s.insertedDue c with
    | some (owner, f :: _) => insertedCommand c (Config.returnedByte c s.now) owner f
    | some (_, []) => []
    | none => []

/-- The row that grants a piece of work (R137). -/
def Work.command (c : Chan) : Work → Instr
  | .relayed => .relayedFrameGrant c
  | .learning => .learningSequenceGrant c
  | .upkeep => .upkeepSequenceGrant c
  | .record => .recordSequenceGrant c
  | .summary => .summarySequenceGrant c

/-- The grant that is due on a port (R137). -/
def State.grantEvents (c : Chan) (s : State) : List Instr :=
  match s.choice c with
  | some w => [w.command c]
  | none => []

/-- The filtered changes that are due on a channel: a rise or fall of the upstream gate (R1) and of the servo gate
(R3) whose raw line has held for 2 quanta; and the raw gate's return low that clears a mark set at a reset's end
(R2). -/
def State.gateEvents (c : Chan) (s : State) : List Instr :=
  let ch := s.ch c
  (if riseTaken ch then [.upstreamRise c] else [])
    ++ (if fallTaken ch then [.upstreamFall c] else [])
    ++ (if servoRiseTaken ch then [.servoRise c] else [])
    ++ (if servoFallTaken ch then [.servoFall c] else [])
    ++ (if ch.markWaits && !Config.rawGate c s.now then [.rawGateReturnLow c] else [])

/-- The events of a running channel that are due at the present instant: those of the gate filters (R1 to R3), a
stall cut (R24), a record's expiries (R5), the heat tick (R60), the monitor sample (R104), a frame completion
(R136), a grant (R137). -/
def State.channelEvents (c : Chan) (s : State) : List Instr :=
  let ch := s.ch c
  s.gateEvents c
    ++ (if ch.uwg && ch.stalled.isSome then [.stallCut c] else [])
    ++ ch.queue.flatMap (BurstRecord.dueEvents c s.now (s.delay c) ch)
    ++ (if ch.nextTick ≤ s.now then [.heatTick c] else [])
    ++ (if hasCome s.now ch.mon.due then [.monitorSample c (Config.monLines c s.now)] else [])
    ++ s.portEvents c ++ s.grantEvents c

/-- The part's own events due at the present instant. -/
def State.dueEvents (s : State) : List Instr :=
  match s.phase with
  | .running => s.channelEvents .a ++ s.channelEvents .b
  | .loading due =>
    if due ≤ s.now then [.optionLoadComplete (Config.rawGate .a s.now) (Config.rawGate .b s.now)] else []
  | .loadDone | .lineReset => []

/-- The event the idle step takes, with the state it is taken in: the only one due, or one of several by the
free choice of order (log 2). -/
def State.ownEvent (s : State) : Option (Instr × State) :=
  match s.dueEvents with
  | [] => none
  | [e] => some (e, s)
  | e :: es =>
    some ((e :: es).getD (Config.orderChoice s.orderCount % (e :: es).length) e,
      { s with orderCount := s.orderCount + 1 })

end Sys2Proof.Machine
end

