-- ==== Sys2Proof/Machine/Dispatch.lean ====
section
/-! DEFINITION. `exec`: one arm per row of spec/opcode_table.json. -/

namespace Sys2Proof.Machine

def exec (i : Instr) (s : State) : Host.Outcome State Fault Refusal :=
  match i with
  | .powerOn => Sys2Proof.Machine.execPowerOn s
  | .optionLoadComplete uwgA uwgB => Sys2Proof.Machine.execOptionLoadComplete uwgA uwgB s
  | .rstnFall => Sys2Proof.Machine.execRstnFall s
  | .rstnRise uwgA uwgB => Sys2Proof.Machine.execRstnRise uwgA uwgB s
  | .upstreamRise c => Sys2Proof.Machine.execUpstreamRise c s
  | .upstreamFall c => Sys2Proof.Machine.execUpstreamFall c s
  | .servoRise c => Sys2Proof.Machine.execServoRise c s
  | .servoFall c => Sys2Proof.Machine.execServoFall c s
  | .warmStart c rise => Sys2Proof.Machine.execWarmStart c rise s
  | .writeStart c rise => Sys2Proof.Machine.execWriteStart c rise s
  | .writeEnd c rise => Sys2Proof.Machine.execWriteEnd c rise s
  | .tailEnd c rise => Sys2Proof.Machine.execTailEnd c rise s
  | .stallCut c => Sys2Proof.Machine.execStallCut c s
  | .heatTick c => Sys2Proof.Machine.execHeatTick c s
  | .monitorSample c lines => Sys2Proof.Machine.execMonitorSample c lines s
  | .faultClear c => Sys2Proof.Machine.execFaultClear c s
  | .channelRestart c => Sys2Proof.Machine.execChannelRestart c s
  | .modeWriteHalt c => Sys2Proof.Machine.execModeWriteHalt c s
  | .modeWriteNormal c => Sys2Proof.Machine.execModeWriteNormal c s
  | .modeWriteShadow c => Sys2Proof.Machine.execModeWriteShadow c s
  | .injectWrite c => Sys2Proof.Machine.execInjectWrite c s
  | .bandSelectWrite c => Sys2Proof.Machine.execBandSelectWrite c s
  | .headFieldWrite c => Sys2Proof.Machine.execHeadFieldWrite c s
  | .lowByteWrite c => Sys2Proof.Machine.execLowByteWrite c s
  | .highByteWrite c => Sys2Proof.Machine.execHighByteWrite c s
  | .heatSettingWrite c => Sys2Proof.Machine.execHeatSettingWrite c s
  | .monitorRegisterWrite c => Sys2Proof.Machine.execMonitorRegisterWrite c s
  | .stallLimitWrite c => Sys2Proof.Machine.execStallLimitWrite c s
  | .wedgeLevelWrite c => Sys2Proof.Machine.execWedgeLevelWrite c s
  | .pageSelectWrite c => Sys2Proof.Machine.execPageSelectWrite c s
  | .headSelectWrite c => Sys2Proof.Machine.execHeadSelectWrite c s
  | .levelRegisterWrite c => Sys2Proof.Machine.execLevelRegisterWrite c s
  | .preamplifierReset c => Sys2Proof.Machine.execPreamplifierReset c s
  | .relayedWrite c => Sys2Proof.Machine.execRelayedWrite c s
  | .temperatureRead c byte => Sys2Proof.Machine.execTemperatureRead c byte s
  | .journalSlotRead c byte => Sys2Proof.Machine.execJournalSlotRead c byte s
  | .summaryRead c byte => Sys2Proof.Machine.execSummaryRead c byte s
  | .upstreamFrameStart selA selB => Sys2Proof.Machine.execUpstreamFrameStart selA selB s
  | .upstreamWriteEnd bits => Sys2Proof.Machine.execUpstreamWriteEnd bits s
  | .upstreamReadAddress bits => Sys2Proof.Machine.execUpstreamReadAddress bits s
  | .earlyRelease => Sys2Proof.Machine.execEarlyRelease s
  | .doubleSelect => Sys2Proof.Machine.execDoubleSelect s
  | .relayedFrameGrant c => Sys2Proof.Machine.execRelayedFrameGrant c s
  | .learningSequenceGrant c => Sys2Proof.Machine.execLearningSequenceGrant c s
  | .learningReadComplete c byte => Sys2Proof.Machine.execLearningReadComplete c byte s
  | .upkeepSequenceGrant c => Sys2Proof.Machine.execUpkeepSequenceGrant c s
  | .upkeepWriteComplete c => Sys2Proof.Machine.execUpkeepWriteComplete c s
  | .insertedPageSelectComplete c => Sys2Proof.Machine.execInsertedPageSelectComplete c s
  | .recordSequenceGrant c => Sys2Proof.Machine.execRecordSequenceGrant c s
  | .summarySequenceGrant c => Sys2Proof.Machine.execSummarySequenceGrant c s
  | .journalWriteComplete c => Sys2Proof.Machine.execJournalWriteComplete c s
  | .relayedRead c byte => Sys2Proof.Machine.execRelayedRead c byte s
  | .rawGateReturnLow c => Sys2Proof.Machine.execRawGateReturnLow c s
  | .upstreamReadEnd => Sys2Proof.Machine.execUpstreamReadEnd s

end Sys2Proof.Machine
end

