-- ==== Sys2Proof/Machine/Step.lean ====
section
/-! DEFINITION. `step`: the command at the front of the queue, or, with none waiting, the part's own next due
event or the passing of one quantum (log 1). -/

namespace Sys2Proof.Machine

/-- One step of the part. -/
def step (s : State) : Host.Outcome State Fault Refusal :=
  match s.pending with
  | i :: rest => exec i { s with pending := rest }
  | [] =>
    match s.ownEvent with
    | some (i, t) => exec i t
    | none => .next s.passQuantum

/-- The state with the command a word spells put at the front of its queue; unchanged where the word spells
none, as no word of this block's table does. -/
def State.withFetchWord (s : State) (nbits w : Nat) : State :=
  match decodeTableWord nbits w with
  | some i => { s with pending := i :: s.pending }
  | none => s

end Sys2Proof.Machine
end

