-- ==== Sys2Proof/Safety.lean ====
section
/-! DEFINITION. What counts as a lawful state of the part, in the terms the claims use: the laws the manual states for
every instant, the table of acceptance tests, and the completions of frames. -/

namespace Sys2Proof

/-- The channel a command names; none for the resets and for the upstream frames, which concern the part as a
whole. -/
def Instr.channel : Instr → Option Chan
  | .upstreamRise c | .upstreamFall c | .servoRise c | .servoFall c | .warmStart c _ | .writeStart c _
  | .writeEnd c _ | .tailEnd c _ | .stallCut c | .heatTick c | .monitorSample c _ | .faultClear c
  | .channelRestart c | .modeWriteHalt c | .modeWriteNormal c | .modeWriteShadow c | .injectWrite c
  | .bandSelectWrite c | .headFieldWrite c | .lowByteWrite c | .highByteWrite c | .heatSettingWrite c
  | .monitorRegisterWrite c | .stallLimitWrite c | .wedgeLevelWrite c | .pageSelectWrite c
  | .headSelectWrite c | .levelRegisterWrite c | .preamplifierReset c | .relayedWrite c
  | .temperatureRead c _ | .journalSlotRead c _ | .summaryRead c _ | .relayedFrameGrant c
  | .learningSequenceGrant c | .learningReadComplete c _ | .upkeepSequenceGrant c
  | .upkeepWriteComplete c | .insertedPageSelectComplete c | .recordSequenceGrant c
  | .summarySequenceGrant c | .journalWriteComplete c | .relayedRead c _ | .rawGateReturnLow c => some c
  | .powerOn | .optionLoadComplete _ _ | .rstnFall | .rstnRise _ _ | .upstreamFrameStart _ _
  | .upstreamWriteEnd _ | .upstreamReadAddress _ | .earlyRelease | .doubleSelect
  | .upstreamReadEnd => none

/-- The commands of a reset: a power-on, the end of the option load, an edge of RSTn (R174). -/
def Instr.isReset : Instr → Bool
  | .powerOn | .optionLoadComplete _ _ | .rstnFall | .rstnRise _ _ => true
  | .upstreamRise _ | .upstreamFall _ | .servoRise _ | .servoFall _ | .warmStart _ _ | .writeStart _ _
  | .writeEnd _ _ | .tailEnd _ _ | .stallCut _ | .heatTick _ | .monitorSample _ _ | .faultClear _
  | .channelRestart _ | .modeWriteHalt _ | .modeWriteNormal _ | .modeWriteShadow _ | .injectWrite _
  | .bandSelectWrite _ | .headFieldWrite _ | .lowByteWrite _ | .highByteWrite _ | .heatSettingWrite _
  | .monitorRegisterWrite _ | .stallLimitWrite _ | .wedgeLevelWrite _ | .pageSelectWrite _
  | .headSelectWrite _ | .levelRegisterWrite _ | .preamplifierReset _ | .relayedWrite _
  | .temperatureRead _ _ | .journalSlotRead _ _ | .summaryRead _ _ | .upstreamFrameStart _ _
  | .upstreamWriteEnd _ | .upstreamReadAddress _ | .earlyRelease | .doubleSelect
  | .relayedFrameGrant _ | .learningSequenceGrant _ | .learningReadComplete _ _
  | .upkeepSequenceGrant _ | .upkeepWriteComplete _ | .insertedPageSelectComplete _
  | .recordSequenceGrant _ | .summarySequenceGrant _ | .journalWriteComplete _ | .relayedRead _ _
  | .rawGateReturnLow _ | .upstreamReadEnd => false

namespace Machine

/-! ## The acceptance tests (R14) -/

/-- The eight tests of R14 in their order, each named by its outcome. -/
def acceptanceTests : List RefuseReason :=
  [.queueFull, .halted, .faulted, .held, .noHead, .tableIncomplete, .levelsNotReady, .budget]

/-- The condition of one test of R14's table, as it stands at the rise. -/
def Channel.testApplies (held : Bool) (avail : Int) (ch : Channel) : RefuseReason → Bool
  | .queueFull => 4 ≤ ch.queue.length
  | .halted => ch.set.mode == .halt || ch.plan == .parked
  | .faulted => ch.plan == .fault
  | .held => held
  | .noHead => ch.shadowHead == none
  | .tableIncomplete =>
    !(ch.entry ch.shadowHead).timingComplete || !(ch.entry ch.shadowHead).bandPresent ch.set.band
  | .levelsNotReady => !ch.ready
  | .budget =>
    ch.set.mode == .normal && decide (min 31 (avail - ch.maxbase ch.shadowHead ch.set.band) < -32)

/-- The first test that applies decides the outcome (R14). -/
def Channel.firstTest (held : Bool) (avail : Int) (ch : Channel) : Option RefuseReason :=
  acceptanceTests.find? (ch.testApplies held avail)

/-! ## Completions of frames (R133, R134, R136) -/

/-- A relayed write of `data` to `addr` completes on port `c` now, its frame begun under the page shadow
`page` (R133, R136, R143). -/
def State.writeCompletes (c : Chan) (page : Option Nibble) (addr : Addr) (data : Byte) (s : State) : Prop :=
  s.phase = .running ∧ s.slot = some ⟨c, .write addr data⟩ ∧
    ∃ began, (s.ch c).port.job = some ⟨began, .relayed page⟩ ∧ began + s.loaded.frameTime ≤ s.now

/-- A relayed read of `addr` completes on port `c` now; `hold` is what the controller has done with it (R134,
R136). -/
def State.readCompletes (c : Chan) (addr : Addr) (hold : ReadHold) (s : State) : Prop :=
  s.phase = .running ∧ s.slot = some ⟨c, .read addr hold⟩ ∧
    ∃ began page, (s.ch c).port.job = some ⟨began, .relayed page⟩ ∧ began + s.loaded.frameTime ≤ s.now

/-- The frame `f` of an inserted sequence completes on port `c` now, with `rest` still to be sent (R136,
R140). -/
def State.insertedCompletes (c : Chan) (owner : SeqOwner) (f : InsertedFrame) (rest : List InsertedFrame)
    (s : State) : Prop :=
  s.phase = .running ∧
    ∃ began, (s.ch c).port.job = some ⟨began, .inserted owner (f :: rest)⟩ ∧
      began + s.loaded.frameTime ≤ s.now

/-- What a completion leaves: the relay slot empty, RDY high, the port free, and the channel changed by
`effect` and by nothing else (R132, R133). -/
def State.delivered (c : Chan) (effect : Channel → Channel) (s : State) : State :=
  { s.upd c fun ch => { effect ch with port := { (effect ch).port with job := none } } with
    slot := none, rdy := true }

/-- What a port carries once a frame of an inserted sequence has completed: the next one, begun now, or nothing
(R136, R140). -/
def nextJob (now : Nat) (owner : SeqOwner) : List InsertedFrame → Option Job
  | [] => none
  | f :: rest => some ⟨now, .inserted owner (f :: rest)⟩

/-! ## The laws -/

/-- The loaded copy is in range (R171 to R173). -/
structure LoadedCopy.Law (l : LoadedCopy) : Prop where
  /-- At most 12 heads on a channel. -/
  heads : ∀ c, l.heads c ≤ 12
  /-- D is an even number from 40 to 400. -/
  delays : ∀ c, 40 ≤ l.delay c ∧ l.delay c ≤ 400 ∧ l.delay c % 2 = 0
  /-- B is a multiple of 4 up to 1020. -/
  budget : l.budget ≤ 1020 ∧ l.budget % 4 = 0
  /-- P_cp and P_j are two pages, neither 0 nor 1. -/
  pages : l.pageParam ≠ 0 ∧ l.pageParam ≠ 1 ∧ l.pageJournal ≠ 0 ∧ l.pageJournal ≠ 1 ∧
    l.pageParam ≠ l.pageJournal
  /-- T_f is 40, 80, 120 or 160. -/
  frame : l.frameTime ∈ [40, 80, 120, 160]

/-- The gate filters count at most the 2 quanta after which they take a change (R1, R3). -/
structure Channel.FilterLaw (ch : Channel) : Prop where
  /-- The upstream gate's filter. -/
  gate : ch.uwgHeld ≤ 2
  /-- The servo gate's filter. -/
  servo : ch.sgHeld ≤ 2

/-- The burst queue and the filtered gate (R1, R6, R9, R10, R75, R91). -/
structure Channel.QueueLaw (now delay : Nat) (ch : Channel) : Prop where
  /-- At most four records (R9). -/
  depth : ch.queue.length ≤ 4
  /-- The fall of a record is known before the next rise and comes at least 2 quanta before it (R1, R9). -/
  apart : ch.queue.Pairwise fun r r' => ∃ f, r.fall = some f ∧ f + 2 ≤ r'.rise
  /-- A record's rise is not in the future. -/
  rises : ∀ r ∈ ch.queue, r.rise ≤ now
  /-- A fall is not before its rise, nor in the future; the hold of the raw gate that the filter counts while it
  is low has begun since (R1). -/
  falls : ∀ r ∈ ch.queue, ∀ f, r.fall = some f →
    r.rise ≤ f ∧ f ≤ now ∧ (ch.uwg = false → f + ch.uwgHeld ≤ now)
  /-- A record without a fall is the burst in progress upstream (R10). -/
  openBurst : ∀ r ∈ ch.queue, r.fall = none → ch.uwg = true ∧ ch.disregard = false
  /-- A stall timer is present only until the fall (R6). -/
  stalls : ∀ r ∈ ch.queue, r.stall.isSome → r.fall = none
  /-- A served record has a lead of at most D less the guard (R6, R75). -/
  leads : ∀ r ∈ ch.queue, r.served → ∃ l, r.lead = some l ∧ l + 4 ≤ delay
  /-- An ACCEPTED record has a ceiling from −32 to 31 (R6, R91). -/
  ceilings : ∀ r ∈ ch.queue, r.isAccepted → ∃ k, r.ceiling = some k ∧ -32 ≤ k ∧ k ≤ 31

/-- The plan state, the level, the trim and the write gate (R19, R28 to R30, R56). -/
structure Channel.PlanLaw (ch : Channel) : Prop where
  /-- DWG_c is high exactly while the level is WRITE (R19). -/
  gate : ch.dwg = true ↔ ch.lvl = .write
  /-- The plan serves a record only with the filtered servo gate low (R19, R40). -/
  servo : ch.plan.serving = true → ch.sg = false
  /-- A serving plan has a front record, drives the level of its outcome, and keeps the held trim within the
  record's upper bound (R28, R29, R78). -/
  served : ch.plan.serving = true → ∃ r, ch.front = some r ∧ ch.lvl = servedLevel ch.plan r ∧
    (ch.plan ≠ .lead → ch.heldTrim ≤ r.upper)
  /-- The record being faded has its fall (R28). -/
  faded : ch.plan = .fade → ∀ r, ch.front = some r → r.fall.isSome
  /-- In REST, HALTED, FAULT and PARKED no record waits to be served (R28, R31). -/
  quiet : ch.plan ∈ [.rest, .halted, .fault, .parked] → ch.front = none
  /-- HALTED, FAULT and PARKED drive OFF (R28). -/
  off : ch.plan ∈ [.halted, .fault, .parked] → ch.lvl = .off
  /-- REST drives BIAS in NORMAL with a target and OFF otherwise (R30). -/
  rest : ch.plan = .rest →
    ch.lvl = if ch.set.mode = .normal ∧ ch.target.isSome then .bias else .off
  /-- WEDGE drives BIAS or OFF (R41). -/
  wedge : ch.plan = .wedge → ch.lvl = .bias ∨ ch.lvl = .off
  /-- The held trim lies within −32..31 (R29). -/
  trim : -32 ≤ ch.heldTrim ∧ ch.heldTrim ≤ 31
  /-- Outside WARM, WRITE and FADE the held trim is 0 (R29). -/
  zero : ch.plan ∉ [.warm, .write, .fade] → ch.heldTrim = 0
  /-- The plan is HALTED exactly in mode HALT (R49, R50). -/
  halt : ch.plan ≠ .parked → (ch.set.mode = .halt ↔ ch.plan = .halted)
  /-- The plan is PARKED exactly on a channel without heads (R56). -/
  parked : ch.plan = .parked ↔ ch.heads = []

/-- The reservations (R89). -/
structure State.HeadroomLaw (s : State) : Prop where
  /-- The two reservations never sum to more than B. -/
  sum : s.chA.res + s.chB.res ≤ s.loaded.budget
  /-- A reservation is at most 286. -/
  most : ∀ c, (s.ch c).res ≤ 286
  /-- A channel with no live ACCEPTED record holds none. -/
  quiet : ∀ c, (s.ch c).queue.any (·.isAccepted) = false → (s.ch c).res = 0

/-- What a channel's ACCEPTED records have booked (R95, R96): the preamplifier's WARM and WRITE registers are
known while one is live, and the reservation covers the greater of the two with the record's ceiling, so the
current driven for the record stays within the reservation. -/
def Channel.CoverLaw (ch : Channel) : Prop :=
  ∀ r ∈ ch.queue, r.isAccepted = true →
    ∃ (w v : Byte) (k : Int), ch.image.warm = some w ∧ ch.image.write = some v ∧ r.ceiling = some k ∧
      max (w.toNat : Int) v.toNat + k ≤ ch.res

/-- The Journal (R161, R162, R165). -/
structure Channel.JournalLaw (ch : Channel) : Prop where
  /-- At most 12 pending records. -/
  pending : ch.jnl.pending.length ≤ 12
  /-- No two pending records have the same kind, head and detail. -/
  keys : ch.jnl.pending.Pairwise fun p q => ¬(p.kind = q.kind ∧ p.head = q.head ∧ p.detail = q.detail)
  /-- A repeat count is 1 to 255. -/
  counts : ∀ p ∈ ch.jnl.pending, 1 ≤ p.count ∧ p.count ≤ 255
  /-- There are eight slots, so at most 8 are occupied. -/
  slots : ch.jnl.slots.length = 8
  /-- A slot is filling exactly while its record sequence runs, and it is then the slot at next-write. -/
  filling : ∀ n : BitVec 3, ch.jnl.slots[n.toNat]? = some .filling ↔
    n = ch.jnl.nextWrite ∧ ∃ began frames, ch.port.job = some ⟨began, .inserted (.record n) frames⟩

/-- The Light Monitor (R100, R103, R107). -/
structure Channel.MonitorLaw (ch : Channel) : Prop where
  /-- The sample timer runs exactly during a heated stretch. -/
  timer : ch.mon.due.isSome = ch.lvl.heated
  /-- Outside a heated stretch both counts are 0. -/
  cold : ch.lvl.heated = false → ch.mon.low = 0 ∧ ch.mon.high = 0
  /-- LOW count and HIGH count stay below the values that declare. -/
  counts : ch.mon.low < 15 ∧ ch.mon.high < 2
  /-- Samples since entry is at most 3. -/
  since : ch.mon.since ≤ 3
  /-- The settings are in range (R125). -/
  settings : ch.set.monPeriod ∈ [32, 64, 128, 256] ∧ 1 ≤ ch.set.nLoss ∧ ch.set.nLoss ≤ 15 ∧
    ch.set.settle ≤ 3

/-- The heats, the tally and the heat-tick timer (R59, R60, R63, R114). -/
structure State.HeatLaw (c : Chan) (s : State) : Prop where
  /-- One head entry and one heat for each configured head. -/
  heads : (s.ch c).heads.length = s.loaded.heads c
  /-- A heat is at most 65535, and L0 at most 400. -/
  values : ∀ h ∈ (s.ch c).heads, h.heat ≤ 65535 ∧ ∀ l, h.cal.l0 = some l → l ≤ 400
  /-- The counts of the interval in progress fit into the part of it that has passed, and no tick is missed. -/
  tally : s.phase = .running → s.now ≤ (s.ch c).nextTick ∧
    ((s.ch c).heads.map (·.tally.total)).sum + ((s.ch c).nextTick - s.now) ≤ (s.ch c).tickPeriod

/-- The relay slot, the ports, their shadows, and the frames held for an active channel (R131 to R142, R149 to
R153). -/
structure State.RelayLaw (s : State) : Prop where
  /-- RDY is high exactly when the slot is empty, outside the resets (R132). -/
  rdy : s.rdy = true ↔ s.phase = .running ∧ s.slot = none
  /-- In a reset the slot is empty and the ports carry nothing (R146). -/
  reset : s.phase ≠ .running → s.slot = none ∧ ∀ c, (s.ch c).port.job = none
  /-- A port that carries a relayed frame carries the frame in the slot, begun under the page shadow it still
  has (R136, R143). -/
  relayed : ∀ c began page, (s.ch c).port.job = some ⟨began, .relayed page⟩ →
    page = (s.ch c).port.page ∧ ∃ k, s.slot = some ⟨c, k⟩
  /-- A parked channel's port carries nothing, and no frame for it is in the slot (R135, R136). -/
  parked : ∀ c, (s.ch c).heads = [] → (s.ch c).port.job = none ∧ ∀ f, s.slot = some f → f.port ≠ c
  /-- Until learning is complete, the port carries at most its learning sequence and no head select is known
  (R137, R139). -/
  learning : ∀ c, (s.ch c).port.learning ≠ .complete → (s.ch c).port.headSel = none ∧
    ∀ j, (s.ch c).port.job = some j → (s.ch c).port.learning = .running ∧
      (j.work = .inserted .learning [.readPage, .readHead] ∨
        (j.work = .inserted .learning [.readHead] ∧ (s.ch c).port.page.isSome))
  /-- Once it is, both shadows are known and no learning sequence runs (R138, R139). -/
  learned : ∀ c, (s.ch c).port.learning = .complete →
    (s.ch c).port.page.isSome ∧ (s.ch c).port.headSel.isSome ∧
      ∀ began frames, (s.ch c).port.job ≠ some ⟨began, .inserted .learning frames⟩
  /-- A read frame upstream waits for its byte exactly while the slot holds it (R134). -/
  reading : ∀ c, s.reception = .reading c ↔ ∃ addr, s.slot = some ⟨c, .read addr .held⟩
  /-- While a frame is received RDY is high (R131, R132, R135). -/
  receiving : ∀ c, s.reception = .receiving c → s.rdy = true
  /-- A protected frame is on its port only while the channel is not active (R142). -/
  held : ∀ c, (s.ch c).carriesRelayed = true → (s.ch c).holdsProtected c s.slot = true →
    (s.ch c).active = false
  /-- An upkeep sequence runs only while the channel is not active (R151, R153). -/
  upkeep : ∀ c, (s.ch c).upkeepRunning = true → (s.ch c).active = false
  /-- While a record is served or waits to be, the head select shadow names its head (R62, R95). -/
  shadow : ∀ c, ∀ r ∈ (s.ch c).queue, r.served = true →
    r.head = (s.ch c).shadowHead ∧ r.head.isSome

/-- All the laws together. -/
structure State.Lawful (s : State) : Prop where
  loaded : s.loaded.Law
  filter : ∀ c, (s.ch c).FilterLaw
  queue : ∀ c, (s.ch c).QueueLaw s.now (s.delay c)
  plan : ∀ c, (s.ch c).PlanLaw
  headroom : s.HeadroomLaw
  cover : ∀ c, (s.ch c).CoverLaw
  journal : ∀ c, (s.ch c).JournalLaw
  monitor : ∀ c, (s.ch c).MonitorLaw
  heat : ∀ c, s.HeatLaw c
  relay : s.RelayLaw

end Machine

end Sys2Proof
end

