-- ==== Sys2Proof/Certificates/Slice0/Obligations.lean ====
section
/-! DEFINITION. The statements for the provers. Each concerns every state that meets its hypotheses, unless it says
otherwise. Effects are written as whole next states: what a record update does not name is unchanged. -/

open Sys2Proof Sys2Proof.Machine

/-! ## The step -/

/-- The command at the front of the queue runs on the state with the queue's rest. -/
def Obligations.FrontCommandRuns : Prop :=
  ∀ (i : Instr) (rest : List Instr) (s : State),
    step { s with pending := i :: rest } = exec i { s with pending := rest }

/-- With nothing waiting and nothing due, one quantum passes (log 1): outside the resets each gate filter's hold count
goes up by one when its raw line stood away from the filtered level, and to 0 when it stood at it, a short excursion
being ignored (R1, R3; log 5), the energised head's count of the level driven goes up by one (R62, R63), the stall
timers count down while the filtered gate is high (R24), and the delay line takes the quantum's data (R4, log 6); in a
reset the count of quanta alone moves. -/
def Obligations.IdleStepPassesOneQuantum : Prop :=
  ∀ s : State, s.pending = [] → s.dueEvents = [] →
    (s.phase = .running → ∃ t, step s = .next t ∧
      t = { s with now := s.now + 1, chA := t.chA, chB := t.chB } ∧
      ∀ c, t.ch c =
        { s.ch c with
          uwgHeld := if Config.rawGate c s.now = (s.ch c).uwg then 0 else (s.ch c).uwgHeld + 1
          sgHeld := if Config.rawServo c s.now = (s.ch c).sg then 0 else (s.ch c).sgHeld + 1
          heads := (s.ch c).heads.mapIdx fun n h =>
            if (s.ch c).energised = some n then
              { h with tally :=
                ⟨h.tally.bias + (if (s.ch c).lvl = .bias then 1 else 0),
                  h.tally.warm + (if (s.ch c).lvl = .warm then 1 else 0),
                  h.tally.write + (if (s.ch c).lvl = .write then 1 else 0)⟩ }
            else h
          queue := (s.ch c).queue.map fun r =>
            if (s.ch c).uwg then { r with stall := r.stall.map (· - 1) } else r
          delayLine := (Config.writeData c s.now :: (s.ch c).delayLine).take (s.delay c + 2) }) ∧
    (s.phase ≠ .running → step s = .next { s with now := s.now + 1 })

/-- With nothing waiting, an event of the part's own that is due is taken, and time stands still (log 1). The choice
among several is free and is counted (log 2). -/
def Obligations.IdleStepTakesADueEvent : Prop :=
  ∀ s : State, s.pending = [] → s.dueEvents ≠ [] →
    ∃ i ∈ s.dueEvents,
      step s = exec i { s with orderCount := s.orderCount + if s.dueEvents.length = 1 then 0 else 1 }

/-- What is due of a channel's own events at the present instant, outside the resets, each once (the marks that say so are
the model's, log 9). The four expiries of a record of the queue (R5, R32, R38), the stall cut (R24), the heat tick
(R60), the monitor sample (R104), the rise and the fall of a gate filter once its raw line has held for 2 quanta (R1,
R3), the return low of the raw gate that clears a mark set at a reset's end (R2; log 3, 5), the completion of the frame
the port carries, under the row its register has (R136, R143, R144; the row of a read that matches several is the
model's choice, log 11), and the grant the arbiter chooses (R137). A due event whose instant has passed is still due
(log 9). -/
def Obligations.DueEventsOfAChannel : Prop :=
  ∀ (c : Chan) (s : State), s.phase = .running →
    (∀ rise, .warmStart c rise ∈ s.dueEvents ↔
      ∃ r ∈ (s.ch c).queue, r.rise = rise ∧ r.warmTaken = false ∧
        ∃ l, r.lead = some l ∧ rise + s.delay c - l ≤ s.now) ∧
    (∀ rise, .writeStart c rise ∈ s.dueEvents ↔
      ∃ r ∈ (s.ch c).queue, r.rise = rise ∧ r.startTaken = false ∧ rise + s.delay c ≤ s.now) ∧
    (∀ rise, .writeEnd c rise ∈ s.dueEvents ↔
      ∃ r ∈ (s.ch c).queue, r.rise = rise ∧ r.endTaken = false ∧
        ∃ f, r.fall = some f ∧ f + s.delay c ≤ s.now) ∧
    (.stallCut c ∈ s.dueEvents ↔ (s.ch c).uwg = true ∧ ∃ r ∈ (s.ch c).queue, r.stall = some 0) ∧
    (.heatTick c ∈ s.dueEvents ↔ (s.ch c).nextTick ≤ s.now) ∧
    ((∃ lines, .monitorSample c lines ∈ s.dueEvents) ↔ ∃ t, (s.ch c).mon.due = some t ∧ t ≤ s.now) ∧
    (∀ rise, .tailEnd c rise ∈ s.dueEvents ↔
      (s.ch c).plan = .fade ∧ (s.ch c).front.map (·.rise) = some rise ∧
        ∃ r ∈ (s.ch c).queue, r.rise = rise ∧ ∃ t, r.tailEnd = some t ∧ t ≤ s.now) ∧
    (.upstreamRise c ∈ s.dueEvents ↔ (s.ch c).uwg = false ∧ 2 ≤ (s.ch c).uwgHeld) ∧
    (.upstreamFall c ∈ s.dueEvents ↔ (s.ch c).uwg = true ∧ 2 ≤ (s.ch c).uwgHeld) ∧
    (.servoRise c ∈ s.dueEvents ↔ (s.ch c).sg = false ∧ 2 ≤ (s.ch c).sgHeld) ∧
    (.servoFall c ∈ s.dueEvents ↔ (s.ch c).sg = true ∧ 2 ≤ (s.ch c).sgHeld) ∧
    (.rawGateReturnLow c ∈ s.dueEvents ↔ (s.ch c).disregard = true ∧ (s.ch c).uwg = false ∧
      (s.ch c).uwgHeld < 2 ∧ Config.rawGate c s.now = false) ∧
    (∀ k : WriteKind, k.command c ∈ s.dueEvents ↔ ∃ page addr data,
      s.writeCompletes c page addr data ∧ writeKind s.loaded.pageParam page addr data = k) ∧
    (∀ byte i, i ∈ [.temperatureRead c byte, .journalSlotRead c byte, .summaryRead c byte, .relayedRead c byte] →
      (i ∈ s.dueEvents ↔ ∃ addr hold, s.readCompletes c addr hold ∧
        i = readCommand c (Config.returnedByte c s.now) s.loaded (s.ch c).port.page addr hold)) ∧
    (∀ byte, .learningReadComplete c byte ∈ s.dueEvents ↔ byte = Config.returnedByte c s.now ∧
      ∃ f rest, s.insertedCompletes c .learning f rest ∧ (f = .readPage ∨ f = .readHead)) ∧
    (.insertedPageSelectComplete c ∈ s.dueEvents ↔
      ∃ o p rest, s.insertedCompletes c o (.selectPage p) rest) ∧
    (.upkeepWriteComplete c ∈ s.dueEvents ↔
      ∃ addr data rest, s.insertedCompletes c .upkeep (.content addr data) rest) ∧
    (.journalWriteComplete c ∈ s.dueEvents ↔ ∃ o addr data rest,
      s.insertedCompletes c o (.content addr data) rest ∧ o ≠ .upkeep ∧ o ≠ .learning) ∧
    (∀ w : Work, w.command c ∈ s.dueEvents ↔ s.choice c = some w)

/-- In the model every command answers a next state: no row of the table is one whose effect the spec leaves undefined
(DEDUCED, log 15). That a command takes no time, so that it does not move the quantum count, is the model's choice (log
1), and so is the queue of commands, which only the step shortens (log 16); the count of free choices of order moves in
the idle step alone (log 2). The option bytes are programmed once (R171), and only a command of a reset moves the
phase, RSTn and the loaded copy (R171, R174). -/
def Obligations.EveryCommandCompletes : Prop :=
  ∀ (i : Instr) (s : State), ∃ t, exec i s = .next t ∧
    t.now = s.now ∧ t.pending = s.pending ∧ t.orderCount = s.orderCount ∧ t.optionBytes = s.optionBytes ∧
    (i.isReset = false → t.phase = s.phase ∧ t.rstn = s.rstn ∧ t.loaded = s.loaded ∧
      t.loadStatus = s.loadStatus)

/-- In a reset nothing happens on a channel: no rise or fall is taken (R27), no tick (R60), no sample (R113), no frame
completes and none is granted (R130, R146). -/
def Obligations.NothingHappensInReset : Prop :=
  ∀ (i : Instr) (c : Chan) (s : State), i.channel = some c → s.phase ≠ .running → exec i s = .next s

/-- What a command of one channel does depends on nothing of the other channel but, for a rise, its reservation (R91),
and leaves the other channel as it was: the whole of the other channel may be exchanged beforehand or afterwards. -/
def Obligations.ChannelsMeetOnlyInHeadroom : Prop :=
  ∀ (i : Instr) (c : Chan) (s t : State) (x : Channel), i.channel = some c →
    (i = .upstreamRise c → x.res = (s.ch (otherChan c)).res) → exec i s = .next t →
    exec i (s.upd (otherChan c) fun _ => x) = .next (t.upd (otherChan c) fun _ => x)

/-- Among commands, a channel's heats, tallies and tick timer change at its heat ticks and at resets only (R59, R60, R63),
its ambient reading at a read of the temperature register and at resets only (R68), and its delay line at resets only
(R4). The quanta that pass between commands move the tally and the delay line (R63, R4; IdleStepPassesOneQuantum). A
read of a journal slot or of the summary is excepted for the ambient, since one that matches the temperature register
too is delivered to each under any row it matches, which is the model's choice (R144; log 11). -/
def Obligations.OnlyTicksAndResetsMoveTheHeat : Prop :=
  ∀ (i : Instr) (c : Chan) (s t : State), exec i s = .next t → i.isReset = false →
    (i ≠ .heatTick c →
      (t.ch c).heads.map (·.heat) = (s.ch c).heads.map (·.heat) ∧
      (t.ch c).heads.map (·.tally) = (s.ch c).heads.map (·.tally) ∧
      (t.ch c).nextTick = (s.ch c).nextTick ∧ (t.ch c).tickPeriod = (s.ch c).tickPeriod) ∧
    ((∀ byte, i ≠ .temperatureRead c byte ∧ i ≠ .journalSlotRead c byte ∧ i ≠ .summaryRead c byte) →
      (t.ch c).ambient = (s.ch c).ambient ∧ (t.ch c).ambientSet = (s.ch c).ambientSet) ∧
    (t.ch c).delayLine = (s.ch c).delayLine

/-- DWG_c rises at no event but the write start of a live ACCEPTED record with the filtered servo gate low, and the
plan then enters WRITE and drives the level WRITE at that instant (R19). -/
def Obligations.WriteGateRisesOnlyAtAWriteStart : Prop :=
  ∀ (i : Instr) (c : Chan) (s t : State), exec i s = .next t →
    (s.ch c).dwg = false → (t.ch c).dwg = true →
    ∃ rise r, i = .writeStart c rise ∧ (s.ch c).recordAt rise = some r ∧ r.isAccepted = true ∧
      (s.ch c).sg = false ∧ rise + s.delay c ≤ s.now ∧ (t.ch c).plan = .write ∧ (t.ch c).lvl = .write

/-- A record keeps its head, band, rise, lead and ceiling, keeps a fall once it is known, and keeps its outcome but
that an ACCEPTED or SHADOW one may become TRUNCATED at the present instant, or REFUSED for FAULTED or HALTED (R6 to
R8). -/
def Obligations.OutcomeChangesAtMostOnce : Prop :=
  ∀ (i : Instr) (c : Chan) (s t : State), s.loaded.Law → (s.ch c).QueueLaw s.now (s.delay c) →
    exec i s = .next t → ∀ r ∈ (s.ch c).queue, ∀ r' ∈ (t.ch c).queue, r'.rise = r.rise →
      r'.head = r.head ∧ r'.band = r.band ∧ r'.lead = r.lead ∧ r'.ceiling = r.ceiling ∧
      (∀ f, r.fall = some f → r'.fall = some f) ∧
      (r'.outcome = r.outcome ∨
        (r.outcome = .accepted ∨ r.outcome = .shadow) ∧
          ((∃ why, r'.outcome = .truncated why s.now) ∨ r'.outcome = .refused .faulted ∨
            r'.outcome = .refused .halted))

/-- While quanta pass and no command comes, DWD_c shows the data of D + 2 quanta before, and until that many have
passed what the delay line already held; an empty line shows idle, low (R4; log 6). -/
def Obligations.DelayLineDelaysByDPlusTwo : Prop :=
  ∀ (c : Chan) (s : State) (k : Nat), s.phase = .running →
    ((State.passQuantum^[k] s).ch c).dwd (s.delay c) =
      if s.delay c + 2 ≤ k then Config.writeData c (s.now + k - (s.delay c + 2))
      else ((s.ch c).delayLine[s.delay c + 1 - k]?).getD false

/-! ## Resets -/

/-- A power-on, and a fall of RSTn after a power-on has ended, put every block into its reset state: the slot and the
ports empty, RDY low, each channel's queue, plan, trim, reservation, heat, monitor, table, shadows, image and
journal as R27, R57, R72, R89, R113, R130, R146, R159 and R170 give them. A power-on begins a load that completes 32
quanta later (R174); a line reset keeps the loaded copy. During a power-on, or in a reset already, a fall only lowers
the line. DESIGN CHOICE (log 8): a power-on leaves the loaded copy, the load status and the level of RSTn as they are,
each channel is held with the entries and the plan of the former loaded copy until the load, and the tick timer holds
the instant 0 and the period 256. -/
def Obligations.ResetsHoldEveryBlock : Prop :=
  ∀ s : State,
    (exec .powerOn s = .next
      { s with
        phase := .loading (s.now + 32), slot := none, reception := .idle, rdy := false
        chA := { plan := if s.loaded.headsA = 0 then .parked else .rest
                 heads := List.replicate s.loaded.headsA {} }
        chB := { plan := if s.loaded.headsB = 0 then .parked else .rest
                 heads := List.replicate s.loaded.headsB {} } }) ∧
    (s.phase = .running → exec .rstnFall s = .next
      { s with
        phase := .lineReset, rstn := false, slot := none, rdy := false
        reception := if s.reception = .idle then .idle else .ignored
        chA := { plan := if s.loaded.headsA = 0 then .parked else .rest
                 heads := List.replicate s.loaded.headsA {} }
        chB := { plan := if s.loaded.headsB = 0 then .parked else .rest
                 heads := List.replicate s.loaded.headsB {} } }) ∧
    (s.phase ≠ .running → exec .rstnFall s = .next { s with rstn := false })

/-- The end of a reset. The completion of the option load ends the power-on when RSTn is high, and else leaves the part
in reset; a rise of RSTn ends a line reset, with STARTED detail 0, or a power-on whose load is done, with the detail
of that load. Each channel then starts together: PARKED or REST at OFF, the first tick 256 quanta away, the
disregard mark as the raw gate stands, learning and STARTED queued, RDY high (R170, R171, R174). -/
def Obligations.ResetsEndTogether : Prop :=
  ∀ (uwgA uwgB : Bool) (s : State),
    let started := fun (l : LoadedCopy) (detail : Byte) (c : Chan) =>
      ({ disregard := if c = .a then uwgA else uwgB
         plan := if l.heads c = 0 then .parked else .rest
         heads := List.replicate (l.heads c) {}
         nextTick := s.now + 256
         tickPeriod := 256
         port := { learning := if l.heads c = 0 then .absent else .queued }
         jnl := { pending := [⟨.started, 0x0F, detail, 1⟩] } } : Channel)
    let detailOf := fun st : LoadStatus =>
      (match st with
        | .loaded => 1
        | .blank => 2
        | .clamped => 3 : Byte)
    (∀ due, s.phase = .loading due → due ≤ s.now → s.rstn = true →
      exec (.optionLoadComplete uwgA uwgB) s = .next
        { s with
          phase := .running, slot := none, rdy := true
          loaded := loadOptions s.optionBytes, loadStatus := loadStatusOf s.optionBytes
          chA := started (loadOptions s.optionBytes) (detailOf (loadStatusOf s.optionBytes)) .a
          chB := started (loadOptions s.optionBytes) (detailOf (loadStatusOf s.optionBytes)) .b }) ∧
    (∀ due, s.phase = .loading due → due ≤ s.now → s.rstn = false →
      ∃ t, exec (.optionLoadComplete uwgA uwgB) s = .next t ∧
        t.phase = .loadDone ∧ t.rstn = false ∧ t.rdy = false ∧ t.slot = none ∧
        t.loaded = loadOptions s.optionBytes ∧ t.loadStatus = loadStatusOf s.optionBytes ∧
        ∀ c, t.ch c = { plan := if t.loaded.heads c = 0 then .parked else .rest
                        heads := List.replicate (t.loaded.heads c) {} }) ∧
    (s.phase = .lineReset → exec (.rstnRise uwgA uwgB) s = .next
        { s with
          phase := .running, rstn := true, slot := none, rdy := true
          chA := started s.loaded 0 .a, chB := started s.loaded 0 .b }) ∧
    (s.phase = .loadDone → exec (.rstnRise uwgA uwgB) s = .next
        { s with
          phase := .running, rstn := true, slot := none, rdy := true
          chA := started s.loaded (detailOf s.loadStatus) .a
          chB := started s.loaded (detailOf s.loadStatus) .b }) ∧
    (∀ due, s.phase = .loading due ∨ s.phase = .running →
      exec (.rstnRise uwgA uwgB) s = .next { s with rstn := true })

/-- The values a memory that is not blank gives, decoded and clamped each on its own, and the load status: CLAMPED
when some clamp has replaced a value, LOADED otherwise (R171, R173). -/
def Obligations.OptionBytesDecodeAndClamp : Prop :=
  ∀ (b0 b1 b2 b3 b4 b5 b6 b7 : Byte), ¬(b0 = 0xFF ∧ b1 = 0xFF) →
    let bytes := [b0, b1, b2, b3, b4, b5, b6, b7]
    let l := loadOptions bytes
    let p := b5.toNat / 16
    let j := b5.toNat % 16
    let clash := p ≤ 1 ∨ j ≤ 1 ∨ p = j
    l.headsA = (if b0.toNat ≤ 12 then b0.toNat else 12) ∧
    l.headsB = (if b1.toNat ≤ 12 then b1.toNat else 12) ∧
    l.delayA = (if b2.toNat < 20 then 40 else if 200 < b2.toNat then 400 else 2 * b2.toNat) ∧
    l.delayB = (if b3.toNat < 20 then 40 else if 200 < b3.toNat then 400 else 2 * b3.toNat) ∧
    l.budget = 4 * b4.toNat ∧
    (clash → l.pageParam = 12 ∧ l.pageJournal = 13) ∧
    (¬clash → l.pageParam.toNat = p ∧ l.pageJournal.toNat = j) ∧
    l.tempAddr = b6.setWidth 7 ∧
    l.tempPage = b7.setWidth 4 ∧
    l.frameTime = (match b7.toNat / 16 with
      | 0 => 40
      | 1 => 80
      | 2 => 120
      | _ => 160) ∧
    (loadStatusOf bytes =
      if 12 < b0.toNat ∨ 12 < b1.toNat ∨ b2.toNat < 20 ∨ 200 < b2.toNat ∨ b3.toNat < 20 ∨ 200 < b3.toNat ∨
          clash ∨ 3 < b7.toNat / 16 then .clamped
      else .loaded)

/-- A blank memory, bytes 0 and 1 both 0xFF, takes the defaults whatever the other six hold, and the status BLANK; when
only one of the two reads 0xFF its channel has 12 heads and the status is CLAMPED (R172). -/
def Obligations.BlankMemoryTakesTheDefaults : Prop :=
  ∀ (b0 b1 : Byte) (rest : List Byte), rest.length = 6 →
    (b0 = 0xFF → b1 = 0xFF →
      loadOptions (b0 :: b1 :: rest) =
        { headsA := 4, headsB := 4, delayA := 160, delayB := 160, budget := 400, pageParam := 12,
          pageJournal := 13, tempAddr := 0x30, tempPage := 0, frameTime := 80 } ∧
      loadStatusOf (b0 :: b1 :: rest) = .blank) ∧
    (b0 = 0xFF → b1 ≠ 0xFF →
      (loadOptions (b0 :: b1 :: rest)).headsA = 12 ∧ loadStatusOf (b0 :: b1 :: rest) = .clamped) ∧
    (b0 ≠ 0xFF → b1 = 0xFF →
      (loadOptions (b0 :: b1 :: rest)).headsB = 12 ∧ loadStatusOf (b0 :: b1 :: rest) = .clamped)

/-! ## Posting, the monitor's stretch, entries of the plan -/

/-- Posting an event: the pending record of its key counts once more, up to 255, and keeps its place; with none of its
key a new record goes to the newest end while fewer than 12 are pending; else the event is dropped and the dropped
flag set. Nothing else of the journal changes (R162). -/
def Obligations.PostingAnEvent : Prop :=
  ∀ (k : EventKind) (head detail : Byte) (j : Journal),
    ((∃ p ∈ j.pending, p.kind = k ∧ p.head = head ∧ p.detail = detail) →
      j.post k head detail =
        { j with pending := j.pending.map fun p =>
          if p.kind = k ∧ p.head = head ∧ p.detail = detail then
            { p with count := if p.count < 255 then p.count + 1 else 255 }
          else p }) ∧
    ((∀ p ∈ j.pending, ¬(p.kind = k ∧ p.head = head ∧ p.detail = detail)) → j.pending.length < 12 →
      j.post k head detail = { j with pending := j.pending ++ [⟨k, head, detail, 1⟩] }) ∧
    ((∀ p ∈ j.pending, ¬(p.kind = k ∧ p.head = head ∧ p.detail = detail)) → 12 ≤ j.pending.length →
      j.post k head detail = { j with dropped := true })

/-- The monitor at a change of LVL_c. From OFF or BIAS to WARM or WRITE a stretch begins: the first sample one period
away, samples since entry 0 (R101). Between WARM and WRITE samples since entry goes to 0 and the rest stays (R102).
To OFF or BIAS the stretch ends: no sample due, both counts 0, the arm and samples since entry kept (R103). Without
a change of level, and between OFF and BIAS, nothing changes. -/
def Obligations.MonitorFollowsTheLevel : Prop :=
  ∀ (now period : Nat) (old new : Level) (m : Monitor),
    (old ∈ [.off, .bias] → new ∈ [.warm, .write] →
      m.follow old new now period = { m with due := some (now + period), since := 0 }) ∧
    (old ∈ [.warm, .write] → new ∈ [.warm, .write] → old ≠ new →
      m.follow old new now period = { m with since := 0 }) ∧
    (old ∈ [.warm, .write] → new ∈ [.off, .bias] →
      m.follow old new now period = { m with due := none, low := 0, high := 0 }) ∧
    (old ∈ [.off, .bias] → new ∈ [.off, .bias] → m.follow old new now period = m) ∧
    m.follow old old now period = m

/-- Entry into WARM or WRITE for a record. With a fresh set the held trim is T_raw clamped to −32..U, and one TRIM_LIMIT
is posted when T_raw lies outside that range, with detail 1 above a U below 31, 3 above a U of 31, 2 below −32 (R77 to
R79, R81). With the trim kept it is clamped to −32..U and nothing is posted (R29). A hand-over makes a fresh set
exactly from SHADOW to ACCEPTED (R29, R34). The level is WARM or WRITE for an ACCEPTED record and BIAS for another
(R28, R47), and DWG_c is high exactly for WRITE (R19). -/
def Obligations.EntryIntoWarmAndWrite : Prop :=
  ∀ (now : Nat) (p : PlanState) (old r : BurstRecord) (ch : Channel), p = .warm ∨ p = .write →
    (∀ k, r.ceiling = some k → -32 ≤ k) →
    let u : Int := if r.isAccepted then min 31 (r.ceiling.getD 31) else 31
    let raw : Int := ((ch.effectiveReference r.head - ch.heatOf r.head) *
      byteValue (ch.entry r.head).s + 2048) / 4096
    let level : Level := if r.isAccepted then (if p = .warm then .warm else .write) else .bias
    let into := fun (trim : Int) (j : Journal) =>
      { ch with
        plan := p, lvl := level, heldTrim := trim, jnl := j
        dwg := level == .write
        mon := ch.mon.follow ch.lvl level now ch.set.monPeriod }
    ch.enterFresh now p r =
      (if u < raw then into u (ch.jnl.post .trimLimit (headCode r.head) (if u < 31 then 1 else 3))
      else if raw < -32 then into (-32) (ch.jnl.post .trimLimit (headCode r.head) 2)
      else into raw ch.jnl) ∧
    ch.enterKept now p r =
      into (if u < ch.heldTrim then u else if ch.heldTrim < -32 then -32 else ch.heldTrim) ch.jnl ∧
    ch.handOver now p old r =
      (if old.isShadow = true ∧ r.isAccepted = true then ch.enterFresh now p r else ch.enterKept now p r)

/-- The effective reference of a head: H_ref + (A − A0) × k_a clamped to 0..65535, an unwritten H_ref standing at 0, A
being A0 until a reading is taken (R69, R70). -/
def Obligations.EffectiveReferenceOfAHead : Prop :=
  ∀ (h : Option Nat) (ch : Channel),
    let a : Int := if ch.ambientSet then ch.ambient.toNat else ch.set.a0.toNat
    let href : Int := ((ch.entry h).href.getD 0).toNat
    let sum := href + (a - ch.set.a0.toNat) * ch.set.ka.toInt
    0 ≤ ch.effectiveReference h ∧ ch.effectiveReference h ≤ 65535 ∧
    (0 ≤ sum → sum ≤ 65535 → ch.effectiveReference h = sum) ∧
    (sum < 0 → ch.effectiveReference h = 0) ∧ (65535 < sum → ch.effectiveReference h = 65535) ∧
    (ch.ambientSet = false → ch.effectiveReference h = href)

/-- A record leaves the queue, and with the last live ACCEPTED one the reservation is released (R11, R93). A record
that becomes TRUNCATED carries the reason and the instant, posts its event, lowers DWG_c if it is being written,
raises WU_c, and releases the reservation if no live ACCEPTED record is left (R21, R93). -/
def Obligations.LeavingAndTruncation : Prop :=
  ∀ (now : Nat) (why : CutReason) (r : BurstRecord) (ch : Channel),
    (ch.leave r =
      { ch with
        queue := ch.queue.filter (·.rise ≠ r.rise)
        res := if ∃ x ∈ ch.queue, x.rise ≠ r.rise ∧ x.outcome = .accepted then ch.res else 0 }) ∧
    (ch.truncate now why r =
      { ch with
        queue := ch.queue.map fun x =>
          if x.rise = r.rise then { x with outcome := .truncated why now } else x
        dwg := if ch.plan = .write ∧ (ch.front.map (·.rise)) = some r.rise then false else ch.dwg
        wu := true
        jnl := ch.jnl.post .truncated (headCode r.head) why.code
        res := if ∃ x ∈ ch.queue, x.rise ≠ r.rise ∧ x.outcome = .accepted then ch.res else 0 })

/-- Entry into FAULT or HALTED: the record being written is truncated, every other live ACCEPTED or SHADOW record
becomes REFUSED, oldest first, each with its event, those whose write end has passed leaving at once; the level is
OFF, the trim and the reservation 0, DWG_c low, WU_c high (R23, R49, R51). -/
def Obligations.EntryIntoFaultAndHalted : Prop :=
  ∀ (now : Nat) (p : PlanState) (cut : CutReason) (why : RefuseReason) (ch : Channel),
    p = .fault ∨ p = .halted →
    let written := if ch.plan = .write then ch.front else none
    let cutJnl := (match written with
      | some r => ch.jnl.post .truncated (headCode r.head) cut.code
      | none => ch.jnl)
    let others := ch.queue.filter fun r => r.served && written.map (·.rise) != some r.rise
    ch.shutDown now p cut why =
      { ch with
        plan := p, lvl := .off, heldTrim := 0, res := 0, wu := true, dwg := false
        mon := ch.mon.follow ch.lvl .off now ch.set.monPeriod
        queue := (ch.queue.map fun r =>
          if written.map (·.rise) = some r.rise then { r with outcome := .truncated cut now }
          else if r.served then { r with outcome := .refused why } else r).filter fun r => !r.endTaken
        jnl := others.foldl (fun j r => j.post .refused (headCode r.head) why.code) cutJnl }

/-! ## The Write Path -/

/-- A filtered rise that finds four records is refused QUEUE_FULL: no record, one REFUSED event with the head the shadow
names, WU_c high, the disregard mark set; nothing else changes (R17). -/
def Obligations.RiseRefusedQueueFull : Prop :=
  ∀ (c : Chan) (s : State) (ch : Channel), s.ch c = ch → s.phase = .running →
    ch.uwg = false → 2 ≤ ch.uwgHeld → ch.disregard = false → 4 ≤ ch.queue.length →
    exec (.upstreamRise c) s = .next (s.upd c fun _ =>
      { ch with
        uwg := true, uwgHeld := 0, disregard := true, wu := true
        jnl := ch.jnl.post .refused (headCode ch.shadowHead) 1 })

/-- A filtered rise that one of tests 2 to 8 refuses, the first that applies deciding, makes a REFUSED record with its
captured head, band and stall timer and no lead or ceiling, posts its event and raises WU_c (R7, R10, R14, R16). -/
def Obligations.RiseRefusedByATest : Prop :=
  ∀ (c : Chan) (s : State) (ch : Channel) (why : RefuseReason), s.ch c = ch → s.phase = .running →
    ch.uwg = false → 2 ≤ ch.uwgHeld → ch.disregard = false →
    ch.firstTest (ch.holdsProtected c s.slot) ((s.loaded.budget : Int) - (s.ch (otherChan c)).res) = some why →
    why ≠ .queueFull →
    exec (.upstreamRise c) s = .next (s.upd c fun _ =>
      { ch with
        uwg := true, uwgHeld := 0, wu := true
        queue := ch.queue ++
          [{ head := ch.shadowHead, band := ch.set.band, rise := s.now, outcome := .refused why
             stall := if ch.set.stallLimit = 0 then none else some ch.set.stallLimit }]
        jnl := ch.jnl.post .refused (headCode ch.shadowHead) why.code })

/-- A filtered rise that no test refuses. Its record carries the lead: L0 + floor((H_ref_eff − H) × u / 1024), raised to
Lmin, then lowered to D − 4 (R74, R75); in NORMAL it is ACCEPTED with the ceiling min(31, avail − maxbase) and the
reservation rises to maxbase plus ceiling (R90 to R92), in SHADOW it has no ceiling and books nothing (R15). WU_c falls
(R13). From REST the plan enters LEAD, or WEDGE while the servo gate is high; from any other state it stays (R31). -/
def Obligations.RiseAccepted : Prop :=
  ∀ (c : Chan) (s : State) (ch : Channel), s.ch c = ch → s.phase = .running →
    ch.uwg = false → 2 ≤ ch.uwgHeld → ch.disregard = false →
    ch.firstTest (ch.holdsProtected c s.slot) ((s.loaded.budget : Int) - (s.ch (otherChan c)).res) = none →
    let e := ch.entry ch.shadowHead
    let lead := (min ((s.delay c : Int) - 4) (max (byteValue e.lmin)
      (e.l0.getD 0 + (ch.effectiveReference ch.shadowHead - ch.heatOf ch.shadowHead) * byteValue e.u / 1024))).toNat
    let maxbase := max (byteValue (e.base ch.set.band 1)) (byteValue (e.base ch.set.band 2))
    let ceiling := min 31 ((s.loaded.budget : Int) - (s.ch (otherChan c)).res - maxbase)
    let taken : Channel :=
      { ch with
        uwg := true, uwgHeld := 0, wu := false
        queue := ch.queue ++
          [{ head := ch.shadowHead, band := ch.set.band, rise := s.now
             outcome := if ch.set.mode = .normal then .accepted else .shadow
             lead := some lead
             ceiling := if ch.set.mode = .normal then some ceiling else none
             stall := if ch.set.stallLimit = 0 then none else some ch.set.stallLimit }]
        res := if ch.set.mode = .normal then max ch.res (maxbase + ceiling).toNat else ch.res }
    let wedge : Level := if ch.set.wedge = .bias ∧ ch.lvl = .bias then .bias else .off
    exec (.upstreamRise c) s = .next (s.upd c fun _ =>
      if ch.plan ≠ .rest then taken
      else if ch.sg = false then
        { taken with
          plan := .lead, lvl := .bias, heldTrim := 0, dwg := false
          mon := ch.mon.follow ch.lvl .bias s.now ch.set.monPeriod }
      else
        { taken with
          plan := .wedge, lvl := wedge, heldTrim := 0, dwg := false
          mon := ch.mon.follow ch.lvl wedge s.now ch.set.monPeriod })

/-- While the disregard mark is set a filtered rise only moves the gate, and a filtered fall also clears the mark. A mark
set at a reset's end is cleared when the raw gate returns low before it has held high for 2 quanta, and the filter then
counts anew (R1, R2). -/
def Obligations.DisregardMark : Prop :=
  ∀ (c : Chan) (s : State) (ch : Channel), s.ch c = ch → s.phase = .running → ch.disregard = true →
    (ch.uwg = false → 2 ≤ ch.uwgHeld →
      exec (.upstreamRise c) s = .next (s.upd c fun _ => { ch with uwg := true, uwgHeld := 0 })) ∧
    (ch.uwg = true → 2 ≤ ch.uwgHeld →
      exec (.upstreamFall c) s =
        .next (s.upd c fun _ => { ch with uwg := false, uwgHeld := 0, disregard := false })) ∧
    (ch.uwg = false → ch.uwgHeld < 2 →
      exec (.rawGateReturnLow c) s = .next (s.upd c fun _ => { ch with disregard := false, uwgHeld := 0 }))

/-- A filtered fall with the mark clear is the fall of the newest record, whose stall timer goes; with no record only
the gate moves. Until the raw gate has held its new level for 2 quanta no change is taken (R1, R10; log 4). -/
def Obligations.FallOfTheNewestRecord : Prop :=
  ∀ (c : Chan) (s : State) (ch : Channel), s.ch c = ch → s.phase = .running →
    (ch.uwg = true → 2 ≤ ch.uwgHeld → ch.disregard = false →
      (∀ older r, ch.queue = older ++ [r] → r.fall = none →
        exec (.upstreamFall c) s = .next (s.upd c fun _ =>
          { ch with
            uwg := false, uwgHeld := 0
            queue := older ++ [{ r with fall := some s.now, stall := none }] })) ∧
      (ch.queue = [] →
        exec (.upstreamFall c) s = .next (s.upd c fun _ => { ch with uwg := false, uwgHeld := 0 }))) ∧
    (ch.uwgHeld < 2 →
      exec (.upstreamRise c) s = .next s ∧ exec (.upstreamFall c) s = .next s)

/-- The stall cut of the newest record: its fall is the cut instant, its timer goes and the disregard mark is set. A
REFUSED or TRUNCATED record keeps its outcome. An ACCEPTED or SHADOW one is TRUNCATED STALL with its event and WU_c;
when no older record is served, the plan leaves LEAD, WARM or WRITE for REST, and in WEDGE it stays (R24, R45, R46). -/
def Obligations.StallCutOfTheNewestRecord : Prop :=
  ∀ (c : Chan) (s : State) (ch : Channel) (older : List BurstRecord) (r : BurstRecord),
    s.ch c = ch → s.phase = .running → ch.uwg = true → ch.queue = older ++ [r] →
    r.stall = some 0 → r.fall = none → (∀ x ∈ older, x.stall ≠ some 0 ∧ x.rise ≠ r.rise) →
    let quiet := ∀ x ∈ older, x.served = false
    let cut : Channel := { ch with disregard := true }
    let truncated : Channel :=
      { ch with
        disregard := true, wu := true
        queue := older ++ [{ r with fall := some s.now, stall := none, outcome := .truncated .stall s.now }]
        jnl := ch.jnl.post .truncated (headCode r.head) 2
        res := if ∃ x ∈ older, x.outcome = .accepted then ch.res else 0 }
    (r.served = false → exec (.stallCut c) s = .next (s.upd c fun _ =>
      { cut with queue := older ++ [{ r with fall := some s.now, stall := none }] })) ∧
    (r.served = true → ¬quiet → exec (.stallCut c) s = .next (s.upd c fun _ => truncated)) ∧
    (r.served = true → quiet → ch.plan ∈ [.lead, .warm, .write] →
      exec (.stallCut c) s = .next (s.upd c fun _ =>
        { truncated with
          plan := .rest, lvl := ch.restLevel, heldTrim := 0, dwg := false
          mon := ch.mon.follow ch.lvl ch.restLevel s.now ch.set.monPeriod })) ∧
    (r.served = true → quiet → ch.plan = .wedge →
      exec (.stallCut c) s = .next (s.upd c fun _ => truncated))

/-! ## The Laser Planner -/

/-- A filtered servo rise (R40, R41). WRITE: the front record is truncated SERVO, and WEDGE. WARM, LEAD: WEDGE. FADE: the
faded record leaves, and WEDGE. REST: WEDGE, at BIAS only from a REST at BIAS. WEDGE, FAULT, HALTED, PARKED: no change
of the plan. Until the raw gate has held high for 2 quanta no rise is taken (R3; log 4). -/
def Obligations.ServoRise : Prop :=
  ∀ (c : Chan) (s : State) (ch : Channel), s.ch c = ch → s.phase = .running → ch.sg = false →
    let up : Channel := { ch with sg := true, sgHeld := 0 }
    let wedged := fun (level : Level) (x : Channel) =>
      ({ x with
        plan := .wedge, lvl := level, heldTrim := 0, dwg := false
        mon := ch.mon.follow ch.lvl level s.now ch.set.monPeriod } : Channel)
    let serving : Level := if ch.set.wedge = .bias then .bias else .off
    let resting : Level := if ch.set.wedge = .bias ∧ ch.lvl = .bias then .bias else .off
    (ch.sgHeld < 2 → exec (.servoRise c) s = .next s) ∧
    (2 ≤ ch.sgHeld →
      (∀ r, ch.plan = .write → ch.front = some r →
        exec (.servoRise c) s = .next (s.upd c fun _ => wedged serving (up.truncate s.now .servo r))) ∧
      (ch.plan = .warm ∨ ch.plan = .lead →
        exec (.servoRise c) s = .next (s.upd c fun _ => wedged serving up)) ∧
      (∀ r, ch.plan = .fade → ch.front = some r →
        exec (.servoRise c) s = .next (s.upd c fun _ => wedged serving (up.leave r))) ∧
      (ch.plan = .rest → exec (.servoRise c) s = .next (s.upd c fun _ => wedged resting up)) ∧
      (ch.plan ∈ [.wedge, .fault, .halted, .parked] →
        exec (.servoRise c) s = .next (s.upd c fun _ => up)))

/-- A filtered servo fall re-aims a plan in WEDGE: REST without a front record, LEAD before its warm start, and WARM with
a fresh set from its warm start on, SHORT_WARM posted first when the time left is below Lmin. In any other state the
plan does not change (R42, R43, R82). Until the raw gate has held low for 2 quanta no fall is taken (R3; log 4). -/
def Obligations.ServoFall : Prop :=
  ∀ (c : Chan) (s : State) (ch : Channel), s.ch c = ch → s.phase = .running → ch.sg = true →
    let down : Channel := { ch with sg := false, sgHeld := 0 }
    let placed := fun (p : PlanState) (level : Level) =>
      ({ down with
        plan := p, lvl := level, heldTrim := 0, dwg := false
        mon := ch.mon.follow ch.lvl level s.now ch.set.monPeriod } : Channel)
    (ch.sgHeld < 2 → exec (.servoFall c) s = .next s) ∧
    (2 ≤ ch.sgHeld →
      (ch.plan ≠ .wedge → exec (.servoFall c) s = .next (s.upd c fun _ => down)) ∧
      (ch.plan = .wedge → ch.front = none →
        exec (.servoFall c) s = .next (s.upd c fun _ => placed .rest ch.restLevel)) ∧
      (∀ r l, ch.plan = .wedge → ch.front = some r → r.lead = some l → s.now < r.rise + s.delay c - l →
        exec (.servoFall c) s = .next (s.upd c fun _ => placed .lead .bias)) ∧
      (∀ r l, ch.plan = .wedge → ch.front = some r → r.lead = some l → r.rise + s.delay c - l ≤ s.now →
        exec (.servoFall c) s = .next (s.upd c fun _ =>
          Channel.enterFresh s.now .warm r
            { down with jnl :=
              if r.rise + s.delay c - s.now < byteValue (ch.entry r.head).lmin then
                ch.jnl.post .shortWarm (headCode r.head) 0
              else ch.jnl })))

/-- The warm start of a record, once its instant has come. Of the front record in LEAD the plan enters WARM with a fresh
set (R33); of the next record in FADE the faded record leaves and the plan is handed over to WARM (R34). In LEAD the
warm start of a later record changes nothing, in FADE that of a record which is not the next changes nothing, and in
any other state no warm start does (R33, R34); nor does that of a REFUSED or TRUNCATED record (R32 to R34). Before its
instant, or a second time, it is no event, and one whose instant has passed is still taken (log 4, 9). -/
def Obligations.WarmStartOfARecord : Prop :=
  ∀ (c : Chan) (s : State) (ch : Channel) (r : BurstRecord) (l : Nat), s.ch c = ch → s.phase = .running →
    ch.recordAt r.rise = some r → r.lead = some l →
    let marked : Channel :=
      { ch with queue := ch.queue.map fun x => if x.rise = r.rise then { x with warmTaken := true } else x }
    (r.warmTaken = true ∨ s.now < r.rise + s.delay c - l → exec (.warmStart c r.rise) s = .next s) ∧
    (r.warmTaken = false → r.rise + s.delay c - l ≤ s.now →
      (r.served = true → ch.plan = .lead → ch.front = some r →
        exec (.warmStart c r.rise) s = .next (s.upd c fun _ => marked.enterFresh s.now .warm r)) ∧
      (∀ old, r.served = true → ch.plan = .fade → ch.front = some old → ch.nextUp = some r →
        old.rise ≠ r.rise →
        exec (.warmStart c r.rise) s =
          .next (s.upd c fun _ => (marked.leave old).handOver s.now .warm old r)) ∧
      (ch.plan = .lead → ch.front.map (·.rise) ≠ some r.rise →
        exec (.warmStart c r.rise) s = .next (s.upd c fun _ => marked)) ∧
      (ch.plan = .fade → ch.nextUp.map (·.rise) ≠ some r.rise →
        exec (.warmStart c r.rise) s = .next (s.upd c fun _ => marked)) ∧
      (r.served = false ∨ ch.plan ∈ [.parked, .halted, .rest, .warm, .write, .wedge, .fault] →
        exec (.warmStart c r.rise) s = .next (s.upd c fun _ => marked)))

/-- The write start of a record, once its instant has come (R19, R22, R35, R36). A REFUSED or TRUNCATED record: nothing.
An ACCEPTED or SHADOW one with the servo gate high: truncated SERVO at its start. With the gate low the plan enters
WRITE for it: from WARM with the held trim kept, from LEAD with a fresh set, from FADE for an older record by the
hand-over, the faded record leaving. Before its instant, or a second time, it is no event, and one whose instant has
passed is still taken, at the present instant (log 4, 9). -/
def Obligations.WriteStartOfARecord : Prop :=
  ∀ (c : Chan) (s : State) (ch : Channel) (r : BurstRecord), s.ch c = ch → s.phase = .running →
    ch.recordAt r.rise = some r →
    let marked : Channel :=
      { ch with queue := ch.queue.map fun x => if x.rise = r.rise then { x with startTaken := true } else x }
    let level : Level := if r.isAccepted then .write else .bias
    (r.startTaken = true ∨ s.now < r.rise + s.delay c → exec (.writeStart c r.rise) s = .next s) ∧
    (r.startTaken = false → r.rise + s.delay c ≤ s.now →
      (r.served = false → exec (.writeStart c r.rise) s = .next (s.upd c fun _ => marked)) ∧
      (r.served = true → ch.sg = true →
        exec (.writeStart c r.rise) s = .next (s.upd c fun _ => marked.truncate s.now .servo r)) ∧
      (r.served = true → ch.sg = false → ch.plan = .warm → ch.front = some r →
        exec (.writeStart c r.rise) s = .next (s.upd c fun _ =>
          { marked with
            plan := .write, lvl := level, dwg := r.isAccepted
            mon := ch.mon.follow ch.lvl level s.now ch.set.monPeriod })) ∧
      (r.served = true → ch.sg = false → ch.plan = .lead → ch.front = some r →
        exec (.writeStart c r.rise) s = .next (s.upd c fun _ => marked.enterFresh s.now .write r)) ∧
      (∀ old, r.served = true → ch.sg = false → ch.plan = .fade → ch.front = some old → ch.nextUp = some r →
        old.rise ≠ r.rise →
        exec (.writeStart c r.rise) s =
          .next (s.upd c fun _ => (marked.leave old).handOver s.now .write old r)))

/-- The write end of a record, once its fall is known and its instant has come (R11, R37). A REFUSED or TRUNCATED record
leaves. The record being written: with the next record's warm start come it leaves and the plan is handed over to
WARM; else with a tail the plan fades it until its tail end; else it leaves for LEAD, or REST with none next. Before
its instant, or a second time, it is no event; one whose instant has passed is still taken, and the tail is then counted
from the present instant (log 4, 9), which is the write end itself when the event is taken on time (R5). -/
def Obligations.WriteEndOfARecord : Prop :=
  ∀ (c : Chan) (s : State) (ch : Channel) (r : BurstRecord) (f : Nat), s.ch c = ch → s.phase = .running →
    ch.recordAt r.rise = some r → r.fall = some f →
    let mark := fun t : Option Nat => ({ ch with queue := ch.queue.map fun x =>
      if x.rise = r.rise then { x with endTaken := true, tailEnd := t.or x.tailEnd } else x } : Channel)
    let tail := byteValue (ch.entry r.head).tail
    let fading : Level := if r.isAccepted then .warm else .bias
    let placed := fun (p : PlanState) (level : Level) (x : Channel) =>
      ({ x with
        plan := p, lvl := level, heldTrim := 0, dwg := false
        mon := ch.mon.follow ch.lvl level s.now ch.set.monPeriod } : Channel)
    (r.endTaken = true ∨ s.now < f + s.delay c → exec (.writeEnd c r.rise) s = .next s) ∧
    (r.endTaken = false → f + s.delay c ≤ s.now →
      (r.served = false → exec (.writeEnd c r.rise) s = .next (s.upd c fun _ => ch.leave r)) ∧
      (r.served = true → ch.plan ≠ .write →
        exec (.writeEnd c r.rise) s = .next (s.upd c fun _ => mark none)) ∧
      (r.served = true → ch.plan = .write → ch.front = some r → (ch.queue.map (·.rise)).Nodup →
        (∀ n l, ch.nextUp = some n → n.lead = some l → n.rise + s.delay c - l ≤ s.now →
          exec (.writeEnd c r.rise) s = .next (s.upd c fun _ => (ch.leave r).handOver s.now .warm r n)) ∧
        ((∀ n, ch.nextUp = some n → ∃ l, n.lead = some l ∧ s.now < n.rise + s.delay c - l) →
          (tail ≠ 0 → exec (.writeEnd c r.rise) s = .next (s.upd c fun _ =>
            { mark (some (s.now + tail)) with
              plan := .fade, lvl := fading, dwg := false
              mon := ch.mon.follow ch.lvl fading s.now ch.set.monPeriod })) ∧
          (tail = 0 → ch.nextUp = none → exec (.writeEnd c r.rise) s = .next (s.upd c fun _ =>
            placed .rest ch.restLevel (ch.leave r))) ∧
          (tail = 0 → ch.nextUp ≠ none → exec (.writeEnd c r.rise) s = .next (s.upd c fun _ =>
            placed .lead .bias (ch.leave r))))))

/-- The tail end of the record the plan is fading: it leaves, and the plan enters WARM by a hand-over when the next
record's warm start has come, LEAD when it has not, REST when there is none. Of a record no longer being faded it makes
no change (R38). Before its instant it is no event, and one whose instant has passed is still taken (log 4, 9). -/
def Obligations.TailEndOfARecord : Prop :=
  ∀ (c : Chan) (s : State) (ch : Channel) (r : BurstRecord) (t : Nat), s.ch c = ch → s.phase = .running →
    ch.recordAt r.rise = some r → r.tailEnd = some t →
    let placed := fun (p : PlanState) (level : Level) =>
      ({ ch.leave r with
        plan := p, lvl := level, heldTrim := 0, dwg := false
        mon := ch.mon.follow ch.lvl level s.now ch.set.monPeriod } : Channel)
    (ch.plan ≠ .fade ∨ s.now < t → exec (.tailEnd c r.rise) s = .next s) ∧
    (ch.plan = .fade → t ≤ s.now → ch.front = some r → (ch.queue.map (·.rise)).Nodup →
      (∀ n l, ch.nextUp = some n → n.lead = some l → n.rise + s.delay c - l ≤ s.now →
        exec (.tailEnd c r.rise) s = .next (s.upd c fun _ => (ch.leave r).handOver s.now .warm r n)) ∧
      (∀ n l, ch.nextUp = some n → n.lead = some l → s.now < n.rise + s.delay c - l →
        exec (.tailEnd c r.rise) s = .next (s.upd c fun _ => placed .lead .bias)) ∧
      (ch.nextUp = none → exec (.tailEnd c r.rise) s = .next (s.upd c fun _ => placed .rest ch.restLevel)))

/-- A record whose lead is 0: its warm start and its write start fall on one instant, and taken in either order they
leave the same state, from LEAD and from FADE for an older record (R36). -/
def Obligations.WarmAndWriteStartCommute : Prop :=
  ∀ (c : Chan) (s : State) (ch : Channel) (r : BurstRecord), s.ch c = ch → s.phase = .running →
    (ch.queue.map (·.rise)).Nodup → ch.recordAt r.rise = some r → r.served = true → r.lead = some 0 →
    r.warmTaken = false → r.startTaken = false → r.rise + s.delay c ≤ s.now → ch.PlanLaw →
    ch.plan = .lead ∧ ch.front = some r ∨ ch.plan = .fade ∧ ch.nextUp = some r →
    ∃ t t' u, exec (.warmStart c r.rise) s = .next t ∧ exec (.writeStart c r.rise) t = .next u ∧
      exec (.writeStart c r.rise) s = .next t' ∧ exec (.warmStart c r.rise) t' = .next u ∧
      (u.ch c).plan = .write ∧ (u.ch c).front.map (·.rise) = some r.rise

/-- The warm start of the next record and the write end of the record being written, or the tail end of the record being
faded, at one instant: taken in either order they leave the same state, WARM for the next record (R37, R38). -/
def Obligations.NextWarmStartCommutesWithTheEnd : Prop :=
  ∀ (c : Chan) (s : State) (ch : Channel) (r n : BurstRecord) (l : Nat), s.ch c = ch → s.phase = .running →
    (ch.queue.map (·.rise)).Nodup → ch.front = some r → ch.nextUp = some n → n.lead = some l →
    n.warmTaken = false → n.rise + s.delay c - l ≤ s.now →
    (∀ f, ch.plan = .write → r.fall = some f → r.endTaken = false → f + s.delay c ≤ s.now →
      ∃ t t' u, exec (.warmStart c n.rise) s = .next t ∧ exec (.writeEnd c r.rise) t = .next u ∧
        exec (.writeEnd c r.rise) s = .next t' ∧ exec (.warmStart c n.rise) t' = .next u ∧
        (u.ch c).plan = .warm ∧ (u.ch c).front.map (·.rise) = some n.rise) ∧
    (∀ e, ch.plan = .fade → r.tailEnd = some e → e ≤ s.now →
      ∃ t t' u, exec (.warmStart c n.rise) s = .next t ∧ exec (.tailEnd c r.rise) t = .next u ∧
        exec (.tailEnd c r.rise) s = .next t' ∧ exec (.warmStart c n.rise) t' = .next u ∧
        (u.ch c).plan = .warm ∧ (u.ch c).front.map (·.rise) = some n.rise)

/-! ## Heat, trim and the monitor -/

/-- A heat tick: every configured head goes to H − dec + acc, saturated at 65535, with dec = floor(H × d / 256) but at
least 1 when H and d are above 0, acc = floor(E × g / 65536), and E its counts weighted as the weights stand; the
tallies are cleared and the next interval has the period of the prescale as it stands (R60, R61, R63 to R65). In WARM
and WRITE the held trim then drifts, and in no other state (R67, R80). Before its instant it is no event (log 4), and
a tick taken late counts the next interval from the present instant (log 9). -/
def Obligations.HeatTick : Prop :=
  ∀ (c : Chan) (s : State) (ch : Channel), s.ch c = ch → s.phase = .running →
    let heated := fun h : Head =>
      let e := h.tally.bias * ch.set.wBias.toNat + h.tally.warm * ch.set.wWarm.toNat +
        h.tally.write * ch.set.wWrite.toNat
      let d := byteValue h.cal.d
      let dec := if 0 < h.heat ∧ 0 < d ∧ h.heat * d / 256 = 0 then 1 else h.heat * d / 256
      ({ h with
        heat := min 65535 (h.heat - dec + e * byteValue h.cal.g / 65536)
        tally := ⟨0, 0, 0⟩ } : Head)
    let ticked : Channel :=
      { ch with
        heads := ch.heads.map heated
        tickPeriod := 64 * 2 ^ ch.set.prescale.toNat
        nextTick := s.now + 64 * 2 ^ ch.set.prescale.toNat }
    (s.now < ch.nextTick → exec (.heatTick c) s = .next s) ∧
    (ch.nextTick ≤ s.now →
      (ch.plan ∉ [.warm, .write] → exec (.heatTick c) s = .next (s.upd c fun _ => ticked)) ∧
      (ch.plan ∈ [.warm, .write] → exec (.heatTick c) s = .next (s.upd c fun _ => ticked.drift)))

/-- A drift update: T_raw, from the heat as it now stands, is clamped to within 4 of the held trim and then to −32..U;
one TRIM_LIMIT is posted when T_raw lies outside −32..U, and nothing otherwise (R77, R80, R81). So the held trim moves
by at most 4, and stays within −32..U. -/
def Obligations.DriftUpdate : Prop :=
  ∀ (ch : Channel) (r : BurstRecord), ch.plan ∈ [.warm, .write] → ch.front = some r →
    (∀ k, r.ceiling = some k → -32 ≤ k) →
    let u : Int := if r.isAccepted then min 31 (r.ceiling.getD 31) else 31
    let raw : Int := ((ch.effectiveReference r.head - ch.heatOf r.head) *
      byteValue (ch.entry r.head).s + 2048) / 4096
    ch.heldTrim ≤ u → -32 ≤ ch.heldTrim →
    (ch.drift =
      { ch with
        heldTrim := max (-32) (min u (max (ch.heldTrim - 4) (min (ch.heldTrim + 4) raw)))
        jnl :=
          if u < raw then ch.jnl.post .trimLimit (headCode r.head) (if u < 31 then 1 else 3)
          else if raw < -32 then ch.jnl.post .trimLimit (headCode r.head) 2
          else ch.jnl }) ∧
    ch.heldTrim - 4 ≤ ch.drift.heldTrim ∧ ch.drift.heldTrim ≤ ch.heldTrim + 4 ∧
    -32 ≤ ch.drift.heldTrim ∧ ch.drift.heldTrim ≤ u

/-- A head's decay at a tick is at least 1 when its heat and its decay setting are above 0; at every tick at which such a
head collects no energy, or so little that acc is 0, its heat falls by at least 1; left idle, it is at 0 after as many
ticks as its heat at most. Without the floor of 1 a d of 3 would hold every heat up to 85 (R66). -/
def Obligations.IdleHeadsCool : Prop :=
  (∀ heat d : Nat, 0 < heat → 0 < d → 1 ≤ decay heat d) ∧
  (∀ (f : ChannelFields) (h : Head), 0 < h.heat → 0 < byteValue h.cal.d →
    (h.tally.bias * f.wBias.toNat + h.tally.warm * f.wWarm.toNat + h.tally.write * f.wWrite.toNat) *
      byteValue h.cal.g / 65536 = 0 →
    (h.tick f).heat + 1 ≤ h.heat ∧ (h.tick f).heat = ({ h with tally := {} }.tick f).heat) ∧
  (∀ (f : ChannelFields) (h : Head) (n : Nat), 0 < byteValue h.cal.d → h.tally = {} → h.heat ≤ n →
    ((Head.tick f)^[n] h).heat = 0) ∧
  (∀ heat : Nat, heat ≤ 85 → heat * 3 / 256 = 0)

/-- A sample of the light (R104 to R108, R110). A settle sample only counts toward samples since entry and schedules the
next. A counted one, taken as LOW when the arm is armed, which it disarms, moves the counts; it declares light loss
when a LOW brings the LOW count to N_loss or above, light over when a HIGH brings the HIGH count to 2, and the channel
then enters FAULT from a serving plan. Before its instant, or with the timer stopped, it is no event (log 4), and a
sample taken late schedules the next from the present instant (log 9). -/
def Obligations.MonitorSample : Prop :=
  ∀ (c : Chan) (lines : BitVec 2) (s : State) (ch : Channel) (due : Nat), s.ch c = ch → s.phase = .running →
    (ch.mon.due = none → exec (.monitorSample c lines) s = .next s) ∧
    (ch.mon.due = some due → s.now < due → exec (.monitorSample c lines) s = .next s) ∧
    (ch.mon.due = some due → due ≤ s.now →
      let next := { ch.mon with due := some (s.now + ch.set.monPeriod), since := min 3 (ch.mon.since + 1) }
      let isLow := ch.mon.armed = true ∨ lines = 0 ∨ lines = 3
      let sampled := fun (low high : Nat) =>
        { ch with mon := { next with low := low, high := high, armed := false } }
      let faulted := fun (k : EventKind) (low high : Nat) =>
        (({ sampled low high with
          jnl := ch.jnl.post k (headCode (ch.front.bind (·.head))) 0 } : Channel).shutDown
            s.now .fault .fault .faulted)
      (ch.mon.since < ch.set.settle →
        exec (.monitorSample c lines) s = .next (s.upd c fun _ => { ch with mon := next })) ∧
      (ch.set.settle ≤ ch.mon.since →
        (isLow → ch.mon.low + 1 < ch.set.nLoss →
          exec (.monitorSample c lines) s = .next (s.upd c fun _ => sampled (ch.mon.low + 1) 0)) ∧
        (isLow → ch.set.nLoss ≤ ch.mon.low + 1 → ch.plan.serving = true →
          exec (.monitorSample c lines) s =
            .next (s.upd c fun _ => faulted .lightLoss (ch.mon.low + 1) 0)) ∧
        (¬isLow → lines = 1 → exec (.monitorSample c lines) s = .next (s.upd c fun _ => sampled 0 0)) ∧
        (¬isLow → lines = 2 → ch.mon.high + 1 < 2 →
          exec (.monitorSample c lines) s = .next (s.upd c fun _ => sampled 0 (ch.mon.high + 1))) ∧
        (¬isLow → lines = 2 → 2 ≤ ch.mon.high + 1 → ch.plan.serving = true →
          exec (.monitorSample c lines) s =
            .next (s.upd c fun _ => faulted .lightOver 0 (ch.mon.high + 1)))))

/-! ## What the blocks read of one another -/

/-- The target is the three bases of the configured head the shadow names and the band selected, when all three are
written (R119, R148); REST drives BIAS exactly in NORMAL with a target, and follows from the instant that changes
(R30); the channel is ready when the image is the target and no upkeep sequence runs (R149); it has an upkeep request
when it has a target, the image is not that, and none runs (R150); it is active while it holds an ACCEPTED or SHADOW
record or its plan serves one (R142). -/
def Obligations.TargetReadinessAndActivity : Prop :=
  ∀ (now : Nat) (ch : Channel),
    (∀ b w v : Byte, ch.target = some (b, w, v) ↔
      ∃ n h, ch.port.headSel = some n ∧ ch.heads[n.toNat]? = some h ∧
        h.cal.bases[3 * ch.set.band.toNat]? = some (some b) ∧
        h.cal.bases[3 * ch.set.band.toNat + 1]? = some (some w) ∧
        h.cal.bases[3 * ch.set.band.toNat + 2]? = some (some v)) ∧
    ch.restLevel = (if ch.set.mode = .normal ∧ ch.target ≠ none then .bias else .off) ∧
    ch.refreshRest now =
      (if ch.plan = .rest then
        { ch with lvl := ch.restLevel, mon := ch.mon.follow ch.lvl ch.restLevel now ch.set.monPeriod }
      else ch) ∧
    (ch.upkeepRunning = true ↔ ∃ began frames, ch.port.job = some ⟨began, .inserted .upkeep frames⟩) ∧
    (ch.ready = true ↔ ch.upkeepRunning = false ∧ ∃ b w v, ch.target = some (b, w, v) ∧
      ch.image = ⟨some b, some w, some v⟩) ∧
    (ch.upkeepRequest = true ↔ ch.upkeepRunning = false ∧ ∃ b w v, ch.target = some (b, w, v) ∧
      ch.image ≠ ⟨some b, some w, some v⟩) ∧
    (ch.active = true ↔ (∃ r ∈ ch.queue, r.outcome = .accepted ∨ r.outcome = .shadow) ∨
      ch.plan ∈ [.lead, .warm, .write, .fade])

/-- The energised head (R62): in WARM, WRITE and FADE the front record's head whatever the level but OFF; in LEAD, REST
and WEDGE at BIAS the configured head the shadow names; none at OFF. -/
def Obligations.EnergisedHead : Prop :=
  ∀ ch : Channel,
    (ch.lvl = .off → ch.energised = none) ∧
    (ch.lvl ≠ .off → ch.plan ∈ [.warm, .write, .fade] → ch.energised = ch.front.bind (·.head)) ∧
    (ch.lvl = .bias → ch.plan ∈ [.lead, .rest, .wedge] → ∀ n,
      ch.energised = some n ↔ ∃ k, ch.port.headSel = some k ∧ k.toNat = n ∧ n < ch.heads.length)

/-- The lines a state drives: LVL_c and TRM_c, the held trim in two's complement while the level is WARM or WRITE and 0
otherwise (R29, R177); DSEL_c, active and so low while the port carries a frame, and high otherwise (R136, R177), from
one frame of an inserted sequence to the next without a break (the model's choice, log 20); the byte on SDO, 0xFF but
for a read that is served (R131, R134). The select lines SEL_A and SEL_B are active low too (R177). -/
def Obligations.DrivenLines : Prop :=
  ∀ (s : State) (ch : Channel),
    ch.lvlLines.toNat = (match ch.lvl with
      | .off => 0
      | .bias => 1
      | .warm => 2
      | .write => 3) ∧
    (-32 ≤ ch.heldTrim → ch.heldTrim ≤ 31 →
      ch.trmLines.toInt = if ch.lvl = .warm ∨ ch.lvl = .write then ch.heldTrim else 0) ∧
    (ch.dselActive = true ↔ ch.port.job ≠ none) ∧ (ch.dselLine = false ↔ ch.port.job ≠ none) ∧
    (∀ line, selectActive line = true ↔ line = false) ∧
    (∀ c byte, s.reception = .delivering c byte → s.sdoByte = byte) ∧
    ((∀ c byte, s.reception ≠ .delivering c byte) → s.sdoByte = 0xFF)

/-- The summary byte: bits 3..0 the occupied slots, bit 4 the dropped flag, bit 5 WU_c, bits 7..6 the condition, FAULT
1, HALTED 2, else SHADOW 3 in mode SHADOW and 0 otherwise (R58, R167, R176). -/
def Obligations.SummaryByte : Prop :=
  ∀ ch : Channel, ch.jnl.slots.length = 8 →
    ch.summary.toNat % 16 = (ch.jnl.slots.filter (· == .occupied)).length ∧
    ch.summary.getLsbD 4 = ch.jnl.dropped ∧
    ch.summary.getLsbD 5 = ch.wu ∧
    ch.summary.toNat / 64 =
      (if ch.plan = .fault then 1 else if ch.plan = .halted then 2 else if ch.set.mode = .shadow then 3 else 0)

/-! ## Relayed writes -/

/-- A completed write of the command register, under page P_cp (R127). 0xC1: in FAULT the plan enters REST, the counts
go to 0, WU_c falls and FAULT_CLEARED is posted; in any other state nothing (R54). 0xC2: nothing on a parked plan;
else the record being written is truncated RESTART, every record goes, the plan enters REST, the counts and the arm
are cleared, the reservation goes to 0, WU_c falls, the disregard mark is set with the filtered gate high, and
RESTARTED is posted (R26, R55); with the mode HALT the plan is HALTED again and WU_c ends high (R50). Any other byte
does nothing. In each case the slot is emptied, RDY rises and the port is free. -/
def Obligations.CommandRegister : Prop :=
  ∀ (c : Chan) (s : State) (ch : Channel) (data : Byte), s.ch c = ch → s.loaded.Law →
    s.writeCompletes c (some s.loaded.pageParam) 0x4B data →
    let zeroed := fun (level : Level) (armed : Bool) =>
      { ch.mon.follow ch.lvl level s.now ch.set.monPeriod with low := 0, high := 0, armed := armed }
    let written := if ch.plan = .write then ch.front else none
    let cutJnl := (match written with
      | some r => ch.jnl.post .truncated (headCode r.head) 5
      | none => ch.jnl)
    let restarted := fun (p : PlanState) (level : Level) (wu : Bool) =>
      ({ ch with
        queue := [], plan := p, lvl := level, heldTrim := 0, res := 0, dwg := false, wu := wu
        disregard := ch.disregard || ch.uwg
        mon := zeroed level false
        jnl := cutJnl.post .restarted 0x0F 0 } : Channel)
    (data = 0xC1 → ch.plan = .fault → exec (.faultClear c) s = .next (s.delivered c fun _ =>
      { ch with
        plan := .rest, lvl := ch.restLevel, heldTrim := 0, dwg := false, wu := false
        mon := zeroed ch.restLevel ch.mon.armed
        jnl := ch.jnl.post .faultCleared 0x0F 0 })) ∧
    (data = 0xC1 → ch.plan ≠ .fault → exec (.faultClear c) s = .next (s.delivered c fun _ => ch)) ∧
    (data = 0xC2 → ch.plan = .parked → exec (.channelRestart c) s = .next (s.delivered c fun _ => ch)) ∧
    (data = 0xC2 → ch.plan ≠ .parked → ch.set.mode ≠ .halt →
      exec (.channelRestart c) s = .next (s.delivered c fun _ => restarted .rest ch.restLevel false)) ∧
    (data = 0xC2 → ch.plan ≠ .parked → ch.set.mode = .halt →
      exec (.channelRestart c) s = .next (s.delivered c fun _ => restarted .halted .off true)) ∧
    (data ≠ 0xC1 → data ≠ 0xC2 → exec (.relayedWrite c) s = .next (s.delivered c fun _ => ch))

/-- A completed mode write (R123). The low two bits 2 or 3 give HALT: from any state but HALTED and PARKED the plan
enters HALTED, marking the records (R49), and in HALTED nothing more happens. 0 gives NORMAL and 1 SHADOW: in HALTED
the plan enters REST, in REST the level follows the mode, and elsewhere the mode alone changes (R48, R50). No frame
reaches a parked channel (R135), so a parked plan is left out. -/
def Obligations.ModeWrites : Prop :=
  ∀ (c : Chan) (s : State) (ch : Channel) (data : Byte), s.ch c = ch → s.loaded.Law →
    s.writeCompletes c (some s.loaded.pageParam) 0x41 data → ch.plan ≠ .parked →
    let moded := fun m : Mode => ({ ch with set := { ch.set with mode := m } } : Channel)
    let level := fun m : Mode => (if m = .normal ∧ ch.target ≠ none then .bias else .off : Level)
    let run := fun m : Mode =>
      if ch.plan = .halted then
        { moded m with
          plan := .rest, lvl := level m, heldTrim := 0, dwg := false
          mon := ch.mon.follow ch.lvl (level m) s.now ch.set.monPeriod }
      else if ch.plan = .rest then
        { moded m with lvl := level m, mon := ch.mon.follow ch.lvl (level m) s.now ch.set.monPeriod }
      else moded m
    (2 ≤ data.toNat % 4 → exec (.modeWriteHalt c) s = .next (s.delivered c fun _ =>
      if ch.plan = .halted then moded .halt else (moded .halt).shutDown s.now .halted .halt .halted)) ∧
    (data.toNat % 4 = 0 → exec (.modeWriteNormal c) s = .next (s.delivered c fun _ => run .normal)) ∧
    (data.toNat % 4 = 1 → exec (.modeWriteShadow c) s = .next (s.delivered c fun _ => run .shadow))

/-- A completed head field write reaches the entry of the head the shadow names, every entry at 15, and none for a value
no configured head has (R116). A single byte takes all eight bits and its mark (R117); a low byte fills its memory
alone; a high byte forms the 16-bit value with the memory as the low half, 0 when empty, L0 lowered to 400, and keeps
the memory (R118). In REST the level then follows the target (R30). -/
def Obligations.HeadFieldWrites : Prop :=
  ∀ (c : Chan) (s : State) (ch : Channel) (addr : Addr) (data : Byte), s.ch c = ch → s.loaded.Law →
    s.writeCompletes c (some s.loaded.pageParam) addr data →
    let written := fun f : HeadEntry → HeadEntry => s.delivered c fun _ =>
      Channel.refreshRest s.now
        { ch with heads := ch.heads.mapIdx fun n h =>
          if ch.port.headSel = some 15 ∨ ch.port.headSel.map (·.toNat) = some n then { h with cal := f h.cal }
          else h }
    let word := fun low : Option Byte => 256 * data.toNat + (low.getD 0).toNat
    (addr.toNat < 0x18 → exec (.headFieldWrite c) s =
      .next (written fun e => { e with bases := e.bases.set addr.toNat (some data) })) ∧
    (addr = 0x1A → exec (.headFieldWrite c) s = .next (written fun e => { e with lmin := some data })) ∧
    (addr = 0x1B → exec (.headFieldWrite c) s = .next (written fun e => { e with tail := some data })) ∧
    (addr = 0x1C → exec (.headFieldWrite c) s = .next (written fun e => { e with u := some data })) ∧
    (addr = 0x1D → exec (.headFieldWrite c) s = .next (written fun e => { e with s := some data })) ∧
    (addr = 0x20 → exec (.headFieldWrite c) s = .next (written fun e => { e with g := some data })) ∧
    (addr = 0x21 → exec (.headFieldWrite c) s = .next (written fun e => { e with d := some data })) ∧
    (addr = 0x18 → exec (.lowByteWrite c) s = .next (written fun e => { e with l0Low := some data })) ∧
    (addr = 0x1E → exec (.lowByteWrite c) s = .next (written fun e => { e with hrefLow := some data })) ∧
    (addr = 0x19 → exec (.highByteWrite c) s =
      .next (written fun e => { e with l0 := some (if word e.l0Low ≤ 400 then word e.l0Low else 400) })) ∧
    (addr = 0x1F → exec (.highByteWrite c) s =
      .next (written fun e => { e with href := some (BitVec.ofNat 16 (word e.hrefLow)) }))

/-- A completed write of a channel field under page P_cp: band select from the low three bits, the level in REST
following (R122); the weights, the prescale, A0 and k_a (R124); the three monitor settings and the stall limit
(R125); the wedge level (R126); the inject, armed by bit 0 going from 0 to 1 (R128). No other field changes. -/
def Obligations.ChannelFieldWrites : Prop :=
  ∀ (c : Chan) (s : State) (ch : Channel) (addr : Addr) (data : Byte), s.ch c = ch → s.loaded.Law →
    s.writeCompletes c (some s.loaded.pageParam) addr data →
    let n := data.toNat
    let put := fun f : ChannelFields => s.delivered c fun _ => { ch with set := f }
    (addr = 0x40 → exec (.bandSelectWrite c) s = .next (s.delivered c fun _ =>
      Channel.refreshRest s.now { ch with set := { ch.set with band := BitVec.ofNat 3 (n % 8) } })) ∧
    (addr = 0x42 → exec (.heatSettingWrite c) s = .next (put { ch.set with wBias := data })) ∧
    (addr = 0x43 → exec (.heatSettingWrite c) s = .next (put { ch.set with wWarm := data })) ∧
    (addr = 0x44 → exec (.heatSettingWrite c) s = .next (put { ch.set with wWrite := data })) ∧
    (addr = 0x45 → exec (.heatSettingWrite c) s =
      .next (put { ch.set with prescale := BitVec.ofNat 3 (n % 8) })) ∧
    (addr = 0x46 → exec (.heatSettingWrite c) s = .next (put { ch.set with a0 := data })) ∧
    (addr = 0x47 → exec (.heatSettingWrite c) s = .next (put { ch.set with ka := data })) ∧
    (addr = 0x48 → exec (.monitorRegisterWrite c) s = .next (put
      { ch.set with
        monPeriod := if n < 64 then 32 else if n < 128 then 64 else if n < 192 then 128 else 256
        nLoss := if n % 64 / 4 = 0 then 1 else n % 64 / 4
        settle := n % 4 })) ∧
    (addr = 0x49 → exec (.stallLimitWrite c) s = .next (put
      { ch.set with stallLimit := if n = 0 then 0 else if n ≤ 7 then 8 else n })) ∧
    (addr = 0x4A → exec (.wedgeLevelWrite c) s = .next (put
      { ch.set with wedge := if n % 2 = 0 then .bias else .off })) ∧
    (addr = 0x4C → exec (.injectWrite c) s = .next (s.delivered c fun _ =>
      { ch with
        injectMemory := decide (n % 2 = 1)
        mon := { ch.mon with
          armed := if n % 2 = 1 ∧ ch.injectMemory = false then true else ch.mon.armed } }))

/-- A completed write of page select or of head select, on any page, sets its shadow to the low four bits (R138); of a
level register under page 1, its image value (R147, R155); of 0x5A to 0x7C under page 0, the preamplifier reset: both
shadows and the image 0, every slot free, next-write 0, the dropped flag set, the last written summary 0, and
PREAMP_RESET_SEEN posted (R145, R158, R170). Where the target may have changed, the level in REST follows (R30). -/
def Obligations.SelectsLevelsAndPreamplifierReset : Prop :=
  ∀ (c : Chan) (s : State) (ch : Channel) (page : Option Nibble) (addr : Addr) (data : Byte),
    s.ch c = ch → s.writeCompletes c page addr data →
    let nibble : Nibble := BitVec.ofNat 4 (data.toNat % 16)
    (addr = 0x7E → exec (.pageSelectWrite c) s = .next (s.delivered c fun _ =>
      { ch with port := { ch.port with page := some nibble } })) ∧
    (addr = 0x7D → exec (.headSelectWrite c) s = .next (s.delivered c fun _ =>
      Channel.refreshRest s.now { ch with port := { ch.port with headSel := some nibble } })) ∧
    (page = some 1 → addr = 0x10 → exec (.levelRegisterWrite c) s = .next (s.delivered c fun _ =>
      { ch with image := { ch.image with bias := some data } })) ∧
    (page = some 1 → addr = 0x11 → exec (.levelRegisterWrite c) s = .next (s.delivered c fun _ =>
      { ch with image := { ch.image with warm := some data } })) ∧
    (page = some 1 → addr = 0x12 → exec (.levelRegisterWrite c) s = .next (s.delivered c fun _ =>
      { ch with image := { ch.image with write := some data } })) ∧
    (page = some 0 → addr = 0x7C → data = 0x5A → exec (.preamplifierReset c) s = .next (s.delivered c fun _ =>
      Channel.refreshRest s.now
        { ch with
          port := { ch.port with page := some 0, headSel := some 0 }
          image := ⟨some 0, some 0, some 0⟩
          jnl := Journal.post .preampResetSeen 0x0F 0
            { ch.jnl with
              slots := List.replicate 8 .free, nextWrite := 0, dropped := true, lastSummary := some 0 } }))

/-- Every completed write falls under exactly one row of the table (R143): the command of that row empties the slot,
raises RDY and frees the port, and that of any other row makes no change (log 4). A write that no block of the part
receives falls under RELAYED_WRITE, which changes nothing else. -/
def Obligations.EachWriteHasOneRow : Prop :=
  ∀ (c : Chan) (s : State) (page : Option Nibble) (addr : Addr) (data : Byte),
    s.loaded.Law → s.writeCompletes c page addr data →
    let rows := [.pageSelectWrite c, .headSelectWrite c, .preamplifierReset c, .levelRegisterWrite c,
      .headFieldWrite c, .lowByteWrite c, .highByteWrite c, .bandSelectWrite c, .modeWriteNormal c,
      .modeWriteShadow c, .modeWriteHalt c, .heatSettingWrite c, .monitorRegisterWrite c, .stallLimitWrite c,
      .wedgeLevelWrite c, .faultClear c, .channelRestart c, .injectWrite c, .relayedWrite c]
    let received := addr = 0x7E ∨ addr = 0x7D ∨ page = some 0 ∧ addr = 0x7C ∧ data = 0x5A ∨
      page = some 1 ∧ (addr = 0x10 ∨ addr = 0x11 ∨ addr = 0x12) ∨
      page = some s.loaded.pageParam ∧ (addr.toNat ≤ 0x21 ∨ 0x40 ≤ addr.toNat ∧ addr.toNat ≤ 0x4C ∧
        (addr = 0x4B → data = 0xC1 ∨ data = 0xC2))
    (∃ i ∈ rows, (∃ t, exec i s = .next t ∧ t.slot = none ∧ t.rdy = true ∧ (t.ch c).port.job = none) ∧
      ∀ j ∈ rows, j ≠ i → exec j s = .next s) ∧
    (¬received → exec (.relayedWrite c) s = .next (s.delivered c id))

/-! ## Relayed reads -/

/-- A completed read of the temperature register gives the ambient reading (R68); of byte 3 of a slot, frees the slot if
it is occupied (R166); of the summary, clears the dropped flag when the byte returned shows it (R168). A read that
matches several is delivered to each, under any of their rows (R144; log 11). A read that matches none, or that is
doubly selected, changes nothing. The byte goes to SDO while the frame still waits for it (R134). -/
def Obligations.RelayedReads : Prop :=
  ∀ (c : Chan) (s : State) (ch : Channel) (addr : Addr) (hold : ReadHold) (byte : Byte),
    s.ch c = ch → s.readCompletes c addr hold →
    let temperature := ch.port.page = some s.loaded.tempPage ∧ addr = s.loaded.tempAddr
    let slot := ch.port.page = some s.loaded.pageJournal ∧ addr.toNat < 0x20 ∧ addr.toNat % 4 = 3
    let summary := ch.port.page = some s.loaded.pageJournal ∧ addr = 0x20
    let left := fun x : Channel =>
      { s.delivered c (fun _ => x) with
        reception := if s.reception = .reading c then .delivering c byte else s.reception }
    let heard : Channel :=
      { ch with
        ambient := if temperature then byte else ch.ambient
        ambientSet := if temperature then true else ch.ambientSet
        jnl := { ch.jnl with
          slots :=
            if slot ∧ ch.jnl.slots[addr.toNat / 4]? = some .occupied then
              ch.jnl.slots.set (addr.toNat / 4) .free
            else ch.jnl.slots
          dropped := if summary ∧ byte.getLsbD 4 = true then false else ch.jnl.dropped } }
    (hold ≠ .doubled →
      (temperature → exec (.temperatureRead c byte) s = .next (left heard)) ∧
      (slot → exec (.journalSlotRead c byte) s = .next (left heard)) ∧
      (summary → exec (.summaryRead c byte) s = .next (left heard)) ∧
      (¬temperature → ¬slot → ¬summary → exec (.relayedRead c byte) s = .next (left ch))) ∧
    (hold = .doubled → exec (.relayedRead c byte) s = .next (left ch))

/-! ## Upstream frames -/

/-- Upstream frames (R131 to R135). A frame begun with one of the select lines low, which is active (R177), and with
RDY high is received, any other is ignored. A received write of 16 bits or more for a channel that is not parked
enters the empty slot and RDY falls; a shorter one, or one for a parked channel, is discarded. A received read enters
the slot at its eighth bit and RDY falls; for a parked channel it is ignored, SDO high. A read released, or doubly
selected, while it waits in the slot is cancelled: the slot is emptied and RDY rises. One whose downstream frame has
begun runs on, to be decoded after an early release and not after a double select. A second select spoils a frame in
reception, and ends the data of a read delivered. -/
def Obligations.UpstreamFrames : Prop :=
  ∀ s : State,
    let began := fun c : Chan => ∃ t page, (s.ch c).port.job = some ⟨t, .relayed page⟩
    (∀ selA selB, s.reception = .idle → selA = false ∨ selB = false →
      exec (.upstreamFrameStart selA selB) s = .next { s with
        reception :=
          if s.rdy = true ∧ selA = false ∧ selB = true then .receiving .a
          else if s.rdy = true ∧ selA = true ∧ selB = false then .receiving .b
          else .ignored }) ∧
    (∀ c addr data beyond, s.reception = .receiving c → (s.ch c).heads ≠ [] → s.slot = none →
      exec (.upstreamWriteEnd (frameBits false addr data ++ beyond)) s = .next { s with
        reception := .idle, rdy := false, slot := some ⟨c, .write addr data⟩ }) ∧
    (∀ c bits, s.reception = .receiving c → directionIs false bits = true →
      bits.length < 16 ∨ (s.ch c).heads = [] →
      exec (.upstreamWriteEnd bits) s = .next { s with reception := .idle }) ∧
    (∀ c addr, s.reception = .receiving c → (s.ch c).heads ≠ [] → s.slot = none →
      exec (.upstreamReadAddress ((frameBits true addr 0).take 8)) s = .next { s with
        reception := .reading c, rdy := false, slot := some ⟨c, .read addr .held⟩ }) ∧
    (∀ c addr, s.reception = .receiving c → (s.ch c).heads = [] →
      exec (.upstreamReadAddress ((frameBits true addr 0).take 8)) s =
        .next { s with reception := .ignored }) ∧
    (∀ c addr hold, s.reception = .reading c → s.slot = some ⟨c, .read addr hold⟩ → ¬began c →
      exec .earlyRelease s = .next { s with reception := .idle, slot := none, rdy := true } ∧
      exec .doubleSelect s = .next { s with reception := .ignored, slot := none, rdy := true }) ∧
    (∀ c addr hold, s.reception = .reading c → s.slot = some ⟨c, .read addr hold⟩ → began c →
      exec .earlyRelease s = .next { s with reception := .idle, slot := some ⟨c, .read addr .released⟩ } ∧
      exec .doubleSelect s = .next { s with reception := .ignored, slot := some ⟨c, .read addr .doubled⟩ }) ∧
    (∀ c byte, s.reception = .receiving c ∨ s.reception = .delivering c byte →
      exec .doubleSelect s = .next { s with reception := .ignored } ∧
      exec .upstreamReadEnd s = .next { s with reception := .idle }) ∧
    (∀ bits, s.reception = .ignored →
      exec (.upstreamWriteEnd bits) s = .next { s with reception := .idle } ∧
      exec .upstreamReadEnd s = .next { s with reception := .idle })

/-- The sixteen bits of a frame give back its direction, address and data, whatever follows them (R131). A write that the
controller clocked in, once it is granted, is carried on the port as its first sixteen bits, and a read as its first
eight; through the data bits of a read the level of DDI_c is left free (R133, R134, R136; log 14). An inserted frame is
carried in the same form: a page select and a content write whole, a learning read by its direction and address (R136,
R138, R139). -/
def Obligations.FrameBitsAgree : Prop :=
  (∀ (read : Bool) (addr : Addr) (data : Byte) (beyond : List Bool),
    (frameBits read addr data).length = 16 ∧
    directionIs read (frameBits read addr data ++ beyond) = true ∧
    frameAddr (frameBits read addr data ++ beyond) = addr ∧
    frameData (frameBits read addr data ++ beyond) = data) ∧
  (∀ (first : Bool) (bits : List Bool), 15 ≤ bits.length →
    frameBits first (frameAddr (first :: bits)) (frameData (first :: bits)) = first :: bits.take 15) ∧
  ∀ (c : Chan) (s t u : State),
    (∀ bits, s.reception = .receiving c → (s.ch c).heads ≠ [] → s.slot = none →
      bits.head? = some false → 16 ≤ bits.length → exec (.upstreamWriteEnd bits) s = .next t →
      t.choice c = some .relayed → exec (.relayedFrameGrant c) t = .next u →
      u.portFrame c = some (bits.take 16)) ∧
    (∀ bits, s.reception = .receiving c → (s.ch c).heads ≠ [] → s.slot = none →
      bits.head? = some true → bits.length = 8 → exec (.upstreamReadAddress bits) s = .next t →
      t.choice c = some .relayed → exec (.relayedFrameGrant c) t = .next u →
      ∃ data, data.length = 8 ∧ u.portFrame c = some (bits ++ data)) ∧
    (∀ began o f rest, (s.ch c).port.job = some ⟨began, .inserted o (f :: rest)⟩ →
      ∃ bits, s.portFrame c = some bits ∧ bits.length = 16 ∧
        (∀ p, f = .selectPage p → bits = frameBits false 0x7E (p.setWidth 8)) ∧
        (∀ addr data, f = .content addr data → bits = frameBits false addr data) ∧
        (f = .readPage → bits.take 8 = [true, true, true, true, true, true, true, false]) ∧
        (f = .readHead → bits.take 8 = [true, true, true, true, true, true, false, true]))

/-! ## The arbiter, the inserted sequences -/

/-- The arbiter's choice (R137). A protected frame is a write of head select, of a level register under page 1 or an
unknown page, of 0x7C under page 0 or an unknown one (R141). The channel finds one held while the slot holds a frame
for its port that is protected against the page shadow, or, while an inserted sequence runs, against the one that
sequence will leave (R141, R142; DEDUCED, log 17). On a free port of a channel with heads, outside the
resets, the choice is: the relayed frame, once learning is complete, a protected one only while the channel is not
active (R142); then the learning sequence; then an upkeep request, only while the channel is not active (R151); then a
record, with one pending and the slot at next-write free; then a summary that differs from the last written (R164). -/
def Obligations.ArbiterOrder : Prop :=
  (∀ (page : Option Nibble) (addr : Addr) (data : Byte), protectedFrame page (.write addr data) = true ↔
    addr = 0x7D ∨ addr ∈ [0x10, 0x11, 0x12] ∧ (page = none ∨ page = some 1) ∨
      addr = 0x7C ∧ (page = none ∨ page = some 0)) ∧
  (∀ page addr hold, protectedFrame page (.read addr hold) = false) ∧
  (∀ (c : Chan) (slot : Option SlotFrame) (ch : Channel), ch.holdsProtected c slot = true ↔
    ∃ k, slot = some ⟨c, k⟩ ∧ protectedFrame
      (match ch.port.job with
        | some ⟨_, .inserted _ frames⟩ => pageAfter ch.port.page frames
        | _ => ch.port.page) k = true) ∧
  ∀ (c : Chan) (s : State) (ch : Channel), s.ch c = ch → ch.jnl.slots.length = 8 →
    let frame := ∃ k, s.slot = some ⟨c, k⟩ ∧ (protectedFrame ch.port.page k = true → ch.active = false)
    let upkeep := ch.upkeepRequest = true ∧ ch.active = false
    let record := ch.jnl.pending ≠ [] ∧ ch.jnl.slots[ch.jnl.nextWrite.toNat]? = some .free
    (s.phase ≠ .running ∨ ch.heads = [] ∨ ch.port.job ≠ none → s.choice c = none) ∧
    (s.phase = .running → ch.heads ≠ [] → ch.port.job = none →
      (ch.port.learning = .queued → s.choice c = some .learning) ∧
      (ch.port.learning = .absent ∨ ch.port.learning = .running → s.choice c = none) ∧
      (ch.port.learning = .complete →
        (frame → s.choice c = some .relayed) ∧
        (¬frame → upkeep → s.choice c = some .upkeep) ∧
        (¬frame → ¬upkeep → record → s.choice c = some .record) ∧
        (¬frame → ¬upkeep → ¬record → ch.jnl.lastSummary ≠ some ch.summary →
          s.choice c = some .summary) ∧
        (¬frame → ¬upkeep → ¬record → ch.jnl.lastSummary = some ch.summary → s.choice c = none)))

/-- The grants. A relayed frame begins, with the page shadow as it stands (R136, R143); the learning sequence, two reads
(R139); an upkeep sequence, a write for each register whose image value is not the target's, in the order BIAS, WARM,
WRITE, on page 1 (R152); a record sequence, the oldest pending record leaving the list and its slot filling, on P_j
(R165); a summary sequence, the summary as it stands, on P_j (R167). Under another page shadow a page select opens
the sequence and a restore closes it (R140). A grant the arbiter does not choose makes no change (log 4). -/
def Obligations.Grants : Prop :=
  ∀ (c : Chan) (s : State) (ch : Channel), s.ch c = ch →
    let carry := fun (w : PortWork) (x : Channel) =>
      s.upd c fun _ => { x with port := { x.port with job := some ⟨s.now, w⟩ } }
    let framed := fun (shadow page : Nibble) (content : List InsertedFrame) =>
      if shadow = page then content else [.selectPage page] ++ content ++ [.selectPage shadow]
    (s.choice c = some .relayed →
      exec (.relayedFrameGrant c) s = .next (carry (.relayed ch.port.page) ch)) ∧
    (s.choice c = some .learning → exec (.learningSequenceGrant c) s =
      .next (carry (.inserted .learning [.readPage, .readHead])
        { ch with port := { ch.port with learning := .running } })) ∧
    (∀ p b w v, s.choice c = some .upkeep → ch.port.page = some p → ch.target = some (b, w, v) →
      exec (.upkeepSequenceGrant c) s = .next (carry (.inserted .upkeep (framed p 1
        ((if ch.image.bias = some b then [] else [.content 0x10 b]) ++
          (if ch.image.warm = some w then [] else [.content 0x11 w]) ++
          (if ch.image.write = some v then [] else [.content 0x12 v])))) ch)) ∧
    (∀ p x rest, s.choice c = some .record → ch.port.page = some p → ch.jnl.pending = x :: rest →
      let a := 4 * ch.jnl.nextWrite.toNat
      exec (.recordSequenceGrant c) s =
        .next (carry (.inserted (.record ch.jnl.nextWrite) (framed p s.loaded.pageJournal
          [.content (BitVec.ofNat 7 a) x.kind.code, .content (BitVec.ofNat 7 (a + 1)) x.head,
            .content (BitVec.ofNat 7 (a + 2)) x.detail,
            .content (BitVec.ofNat 7 (a + 3)) (BitVec.ofNat 8 x.count)]))
          { ch with jnl := { ch.jnl with
              pending := rest, slots := ch.jnl.slots.set ch.jnl.nextWrite.toNat .filling } })) ∧
    (∀ p, s.choice c = some .summary → ch.port.page = some p → exec (.summarySequenceGrant c) s =
      .next (carry (.inserted (.summary ch.summary)
        (framed p s.loaded.pageJournal [.content 0x20 ch.summary])) ch)) ∧
    (s.choice c ≠ some .relayed → exec (.relayedFrameGrant c) s = .next s) ∧
    (s.choice c ≠ some .learning → exec (.learningSequenceGrant c) s = .next s) ∧
    (s.choice c ≠ some .upkeep → exec (.upkeepSequenceGrant c) s = .next s) ∧
    (s.choice c ≠ some .record → exec (.recordSequenceGrant c) s = .next s) ∧
    (s.choice c ≠ some .summary → exec (.summarySequenceGrant c) s = .next s)

/-- The completion of an inserted frame. The next frame of the sequence begins at once, or the port is free (R136,
R140). A learning read sets its shadow from the low four bits, the second one completing learning, and the level in
REST follows (R139, R30); a page select or restore sets the page shadow (R140); an upkeep write sets its image value
(R153); a journal write is the preamplifier's (R165). At a sequence's end a record's slot is occupied and next-write
moves on, 7 to 0 (R165); the last written summary is the byte written (R167). -/
def Obligations.InsertedFrames : Prop :=
  ∀ (c : Chan) (s : State) (ch : Channel) (rest : List InsertedFrame), s.ch c = ch →
    let send := fun (o : SeqOwner) (x : Channel) => s.upd c fun _ =>
      { x with
        port := { x.port with
          job := nextJob s.now o rest
          learning := if o = .learning ∧ rest = [] then .complete else x.port.learning }
        jnl := (match rest, o with
          | [], .record n =>
            { x.jnl with slots := x.jnl.slots.set n.toNat .occupied, nextWrite := n + 1 }
          | [], .summary v => { x.jnl with lastSummary := some v }
          | _, _ => x.jnl) }
    (∀ byte, s.insertedCompletes c .learning .readPage rest →
      exec (.learningReadComplete c byte) s = .next (send .learning
        { ch with port := { ch.port with page := some (BitVec.ofNat 4 (byte.toNat % 16)) } })) ∧
    (∀ byte, s.insertedCompletes c .learning .readHead rest →
      exec (.learningReadComplete c byte) s = .next (send .learning (Channel.refreshRest s.now
        { ch with port := { ch.port with headSel := some (BitVec.ofNat 4 (byte.toNat % 16)) } }))) ∧
    (∀ o p, s.insertedCompletes c o (.selectPage p) rest → exec (.insertedPageSelectComplete c) s =
      .next (send o { ch with port := { ch.port with page := some p } })) ∧
    (∀ data, s.insertedCompletes c .upkeep (.content 0x10 data) rest → exec (.upkeepWriteComplete c) s =
      .next (send .upkeep { ch with image := { ch.image with bias := some data } })) ∧
    (∀ data, s.insertedCompletes c .upkeep (.content 0x11 data) rest → exec (.upkeepWriteComplete c) s =
      .next (send .upkeep { ch with image := { ch.image with warm := some data } })) ∧
    (∀ data, s.insertedCompletes c .upkeep (.content 0x12 data) rest → exec (.upkeepWriteComplete c) s =
      .next (send .upkeep { ch with image := { ch.image with write := some data } })) ∧
    (∀ o addr data, o ≠ .upkeep → o ≠ .learning → s.insertedCompletes c o (.content addr data) rest →
      exec (.journalWriteComplete c) s = .next (send o ch))

/-- The page shadow a port will have at the end of the sequence it carries, or has when it carries none, is moved only by
a relayed page select, a preamplifier reset, a learning read and a reset: every upkeep and journal sequence leaves the
page shadow as it found it (R138, R140). So a frame that waits in the slot keeps its standing, protected or not, and a
channel that it holds stays held while it waits (R141, R142; DEDUCED, log 17). -/
def Obligations.SequencesRestoreThePage : Prop :=
  ∀ (i : Instr) (c : Chan) (s t : State), s.RelayLaw → exec i s = .next t → i.isReset = false →
    i ≠ .pageSelectWrite c → i ≠ .preamplifierReset c → (∀ byte, i ≠ .learningReadComplete c byte) →
    (t.ch c).port.pageAtEnd = (s.ch c).port.pageAtEnd ∧
    (t.slot = s.slot → (t.ch c).holdsProtected c t.slot = (s.ch c).holdsProtected c s.slot)

/-! ## Laws that every step keeps -/

/-- The reservations: each at most 286, both together at most B, and none on a channel without a live ACCEPTED record
(R89, R90, R93). Every step keeps this. And while an ACCEPTED record is live, the WARM and WRITE registers are known to
the level image and the reservation covers the greater of the two with the record's ceiling (R95, R96): every step
keeps that too, from a state that keeps the relay's law (no level write and no upkeep reaches an active channel). -/
def Obligations.HeadroomLawIsKept : Prop :=
  ∀ s t : State, step s = .next t →
    (s.HeadroomLaw → t.HeadroomLaw) ∧
    (s.RelayLaw → (∀ c, (s.ch c).CoverLaw) → ∀ c, (t.ch c).CoverLaw)

/-- The Journal: at most 12 pending records of distinct keys with counts of 1 to 255, eight slots, and a slot filling
exactly while its record sequence runs, then the one at next-write (R161, R162, R165). Every step keeps this. -/
def Obligations.JournalLawIsKept : Prop :=
  ∀ s t : State, (∀ c, (s.ch c).JournalLaw) → step s = .next t → ∀ c, (t.ch c).JournalLaw

/-- All the laws of `State.Lawful` together: the option values in range, the gate filters (R1, R3), the burst queue
(R1, R6, R9), the plan, its level and the write gate (R19, R28 to R31), the reservations (R89) and what they cover
(R95), the Journal (R161), the monitor (R100 to R107), the heats (R59), the relay slot, the ports and the held frames
(R132 to R142, R151). Every step keeps them. -/
def Obligations.LawfulIsKept : Prop :=
  ∀ s t : State, s.Lawful → step s = .next t → t.Lawful

/-- The state after reset keeps every law. -/
def Obligations.ResetIsLawful : Prop := State.reset.Lawful
end

