-- ==== Sys2Proof/Laws/State.lean ====
section
/-! SUPPORT. The small lemmas of the named updates: for each update, each field of what it leaves. A conjunction is one
lemma per field to `simp`. -/

namespace Sys2Proof.Machine

/-! ## The two channels of a State -/

@[simp] theorem otherChan_ne (c : Chan) : otherChan c ≠ c := by cases c <;> decide

@[simp] theorem ne_otherChan (c : Chan) : c ≠ otherChan c := by cases c <;> decide

@[simp] theorem otherChan_otherChan (c : Chan) : otherChan (otherChan c) = c := by cases c <;> rfl

theorem eq_or_eq_otherChan (c d : Chan) : d = c ∨ d = otherChan c := by cases c <;> cases d <;> decide

@[simp] theorem State.ch_a (s : State) : s.ch .a = s.chA := rfl

@[simp] theorem State.ch_b (s : State) : s.ch .b = s.chB := rfl

@[simp] theorem State.upd_ch (c : Chan) (f : Channel → Channel) (s : State) : (s.upd c f).ch c = f (s.ch c) := by
  cases c <;> rfl

@[simp] theorem State.upd_ch_other (c : Chan) (f : Channel → Channel) (s : State) :
    (s.upd c f).ch (otherChan c) = s.ch (otherChan c) := by cases c <;> rfl

theorem State.upd_ch_ne (c d : Chan) (h : d ≠ c) (f : Channel → Channel) (s : State) :
    (s.upd c f).ch d = s.ch d := by cases c <;> cases d <;> first | rfl | exact absurd rfl h

/-- A change of one channel leaves the rest of the part. -/
@[simp] theorem State.upd_rest (c : Chan) (f : Channel → Channel) (s : State) :
    (s.upd c f).now = s.now ∧
    (s.upd c f).phase = s.phase ∧
    (s.upd c f).rstn = s.rstn ∧
    (s.upd c f).optionBytes = s.optionBytes ∧
    (s.upd c f).loaded = s.loaded ∧
    (s.upd c f).loadStatus = s.loadStatus ∧
    (s.upd c f).slot = s.slot ∧
    (s.upd c f).reception = s.reception ∧
    (s.upd c f).rdy = s.rdy ∧
    (s.upd c f).orderCount = s.orderCount ∧
    (s.upd c f).pending = s.pending := by
  cases c <;> exact ⟨rfl, rfl, rfl, rfl, rfl, rfl, rfl, rfl, rfl, rfl, rfl⟩

@[simp] theorem State.upd_delay (c d : Chan) (f : Channel → Channel) (s : State) :
    (s.upd c f).delay d = s.delay d := by cases c <;> rfl

@[simp] theorem State.upd_running (c : Chan) (f : Channel → Channel) (s : State) :
    (s.upd c f).running = s.running := by cases c <;> rfl

theorem State.upd_upd (c : Chan) (f g : Channel → Channel) (s : State) :
    (s.upd c f).upd c g = s.upd c fun ch => g (f ch) := by cases c <;> rfl

/-! ## The relay slot -/

@[simp] theorem State.fillSlot_fields (f : SlotFrame) (s : State) :
    (s.fillSlot f).slot = some f ∧
    (s.fillSlot f).rdy = false ∧
    (s.fillSlot f).now = s.now ∧
    (s.fillSlot f).phase = s.phase ∧
    (s.fillSlot f).rstn = s.rstn ∧
    (s.fillSlot f).optionBytes = s.optionBytes ∧
    (s.fillSlot f).loaded = s.loaded ∧
    (s.fillSlot f).loadStatus = s.loadStatus ∧
    (s.fillSlot f).reception = s.reception ∧
    (s.fillSlot f).orderCount = s.orderCount ∧
    (s.fillSlot f).pending = s.pending ∧
    (s.fillSlot f).chA = s.chA ∧
    (s.fillSlot f).chB = s.chB :=
  ⟨rfl, rfl, rfl, rfl, rfl, rfl, rfl, rfl, rfl, rfl, rfl, rfl, rfl⟩

@[simp] theorem State.emptySlot_fields (s : State) :
    (s.emptySlot).slot = none ∧
    (s.emptySlot).rdy = true ∧
    (s.emptySlot).now = s.now ∧
    (s.emptySlot).phase = s.phase ∧
    (s.emptySlot).rstn = s.rstn ∧
    (s.emptySlot).optionBytes = s.optionBytes ∧
    (s.emptySlot).loaded = s.loaded ∧
    (s.emptySlot).loadStatus = s.loadStatus ∧
    (s.emptySlot).reception = s.reception ∧
    (s.emptySlot).orderCount = s.orderCount ∧
    (s.emptySlot).pending = s.pending ∧
    (s.emptySlot).chA = s.chA ∧
    (s.emptySlot).chB = s.chB :=
  ⟨rfl, rfl, rfl, rfl, rfl, rfl, rfl, rfl, rfl, rfl, rfl, rfl, rfl⟩

@[simp] theorem State.fillSlot_ch (f : SlotFrame) (c : Chan) (s : State) : (s.fillSlot f).ch c = s.ch c := by
  cases c <;> rfl

@[simp] theorem State.emptySlot_ch (c : Chan) (s : State) : s.emptySlot.ch c = s.ch c := by cases c <;> rfl

/-! ## One channel -/

/-- Posting an event changes the Journal only (R162). -/
@[simp] theorem Channel.post_fields (k : EventKind) (head detail : Byte) (ch : Channel) :
    (ch.post k head detail).jnl = ch.jnl.post k head detail ∧
    (ch.post k head detail).uwg = ch.uwg ∧
    (ch.post k head detail).uwgHeld = ch.uwgHeld ∧
    (ch.post k head detail).sg = ch.sg ∧
    (ch.post k head detail).sgHeld = ch.sgHeld ∧
    (ch.post k head detail).disregard = ch.disregard ∧
    (ch.post k head detail).queue = ch.queue ∧
    (ch.post k head detail).dwg = ch.dwg ∧
    (ch.post k head detail).wu = ch.wu ∧
    (ch.post k head detail).delayLine = ch.delayLine ∧
    (ch.post k head detail).plan = ch.plan ∧
    (ch.post k head detail).lvl = ch.lvl ∧
    (ch.post k head detail).heldTrim = ch.heldTrim ∧
    (ch.post k head detail).res = ch.res ∧
    (ch.post k head detail).heads = ch.heads ∧
    (ch.post k head detail).nextTick = ch.nextTick ∧
    (ch.post k head detail).tickPeriod = ch.tickPeriod ∧
    (ch.post k head detail).ambient = ch.ambient ∧
    (ch.post k head detail).ambientSet = ch.ambientSet ∧
    (ch.post k head detail).mon = ch.mon ∧
    (ch.post k head detail).set = ch.set ∧
    (ch.post k head detail).injectMemory = ch.injectMemory ∧
    (ch.post k head detail).port = ch.port ∧
    (ch.post k head detail).image = ch.image :=
  ⟨rfl, rfl, rfl, rfl, rfl, rfl, rfl, rfl, rfl, rfl, rfl, rfl, rfl, rfl, rfl, rfl, rfl, rfl, rfl, rfl, rfl, rfl, rfl, rfl⟩

/-- A change of the driven level (R100). -/
@[simp] theorem Channel.drive_fields (now : Nat) (l : Level) (ch : Channel) :
    (ch.drive now l).lvl = l ∧
    (ch.drive now l).mon = ch.mon.follow ch.lvl l now ch.set.monPeriod ∧
    (ch.drive now l).uwg = ch.uwg ∧
    (ch.drive now l).uwgHeld = ch.uwgHeld ∧
    (ch.drive now l).sg = ch.sg ∧
    (ch.drive now l).sgHeld = ch.sgHeld ∧
    (ch.drive now l).disregard = ch.disregard ∧
    (ch.drive now l).queue = ch.queue ∧
    (ch.drive now l).dwg = ch.dwg ∧
    (ch.drive now l).wu = ch.wu ∧
    (ch.drive now l).delayLine = ch.delayLine ∧
    (ch.drive now l).plan = ch.plan ∧
    (ch.drive now l).heldTrim = ch.heldTrim ∧
    (ch.drive now l).res = ch.res ∧
    (ch.drive now l).heads = ch.heads ∧
    (ch.drive now l).nextTick = ch.nextTick ∧
    (ch.drive now l).tickPeriod = ch.tickPeriod ∧
    (ch.drive now l).ambient = ch.ambient ∧
    (ch.drive now l).ambientSet = ch.ambientSet ∧
    (ch.drive now l).set = ch.set ∧
    (ch.drive now l).injectMemory = ch.injectMemory ∧
    (ch.drive now l).port = ch.port ∧
    (ch.drive now l).image = ch.image ∧
    (ch.drive now l).jnl = ch.jnl :=
  ⟨rfl, rfl, rfl, rfl, rfl, rfl, rfl, rfl, rfl, rfl, rfl, rfl, rfl, rfl, rfl, rfl, rfl, rfl, rfl, rfl, rfl, rfl, rfl, rfl⟩

/-- Entry into a plan state (R28). -/
@[simp] theorem Channel.place_fields (now : Nat) (p : PlanState) (l : Level) (trim : Int) (ch : Channel) :
    (ch.place now p l trim).plan = p ∧
    (ch.place now p l trim).lvl = l ∧
    (ch.place now p l trim).heldTrim = trim ∧
    (ch.place now p l trim).dwg = (l == .write) ∧
    (ch.place now p l trim).mon = ch.mon.follow ch.lvl l now ch.set.monPeriod ∧
    (ch.place now p l trim).uwg = ch.uwg ∧
    (ch.place now p l trim).uwgHeld = ch.uwgHeld ∧
    (ch.place now p l trim).sg = ch.sg ∧
    (ch.place now p l trim).sgHeld = ch.sgHeld ∧
    (ch.place now p l trim).disregard = ch.disregard ∧
    (ch.place now p l trim).queue = ch.queue ∧
    (ch.place now p l trim).wu = ch.wu ∧
    (ch.place now p l trim).delayLine = ch.delayLine ∧
    (ch.place now p l trim).res = ch.res ∧
    (ch.place now p l trim).heads = ch.heads ∧
    (ch.place now p l trim).nextTick = ch.nextTick ∧
    (ch.place now p l trim).tickPeriod = ch.tickPeriod ∧
    (ch.place now p l trim).ambient = ch.ambient ∧
    (ch.place now p l trim).ambientSet = ch.ambientSet ∧
    (ch.place now p l trim).set = ch.set ∧
    (ch.place now p l trim).injectMemory = ch.injectMemory ∧
    (ch.place now p l trim).port = ch.port ∧
    (ch.place now p l trim).image = ch.image ∧
    (ch.place now p l trim).jnl = ch.jnl :=
  ⟨rfl, rfl, rfl, rfl, rfl, rfl, rfl, rfl, rfl, rfl, rfl, rfl, rfl, rfl, rfl, rfl, rfl, rfl, rfl, rfl, rfl, rfl, rfl, rfl⟩

/-- A port falls free (R136). -/
@[simp] theorem Channel.freePort_fields (ch : Channel) :
    (ch.freePort).port = { ch.port with job := none } ∧
    (ch.freePort).uwg = ch.uwg ∧
    (ch.freePort).uwgHeld = ch.uwgHeld ∧
    (ch.freePort).sg = ch.sg ∧
    (ch.freePort).sgHeld = ch.sgHeld ∧
    (ch.freePort).disregard = ch.disregard ∧
    (ch.freePort).queue = ch.queue ∧
    (ch.freePort).dwg = ch.dwg ∧
    (ch.freePort).wu = ch.wu ∧
    (ch.freePort).delayLine = ch.delayLine ∧
    (ch.freePort).plan = ch.plan ∧
    (ch.freePort).lvl = ch.lvl ∧
    (ch.freePort).heldTrim = ch.heldTrim ∧
    (ch.freePort).res = ch.res ∧
    (ch.freePort).heads = ch.heads ∧
    (ch.freePort).nextTick = ch.nextTick ∧
    (ch.freePort).tickPeriod = ch.tickPeriod ∧
    (ch.freePort).ambient = ch.ambient ∧
    (ch.freePort).ambientSet = ch.ambientSet ∧
    (ch.freePort).mon = ch.mon ∧
    (ch.freePort).set = ch.set ∧
    (ch.freePort).injectMemory = ch.injectMemory ∧
    (ch.freePort).image = ch.image ∧
    (ch.freePort).jnl = ch.jnl :=
  ⟨rfl, rfl, rfl, rfl, rfl, rfl, rfl, rfl, rfl, rfl, rfl, rfl, rfl, rfl, rfl, rfl, rfl, rfl, rfl, rfl, rfl, rfl, rfl, rfl⟩

/-- A port takes up work (R136). -/
@[simp] theorem Channel.startJob_fields (now : Nat) (w : PortWork) (ch : Channel) :
    (ch.startJob now w).port = { ch.port with job := some ⟨now, w⟩ } ∧
    (ch.startJob now w).uwg = ch.uwg ∧
    (ch.startJob now w).uwgHeld = ch.uwgHeld ∧
    (ch.startJob now w).sg = ch.sg ∧
    (ch.startJob now w).sgHeld = ch.sgHeld ∧
    (ch.startJob now w).disregard = ch.disregard ∧
    (ch.startJob now w).queue = ch.queue ∧
    (ch.startJob now w).dwg = ch.dwg ∧
    (ch.startJob now w).wu = ch.wu ∧
    (ch.startJob now w).delayLine = ch.delayLine ∧
    (ch.startJob now w).plan = ch.plan ∧
    (ch.startJob now w).lvl = ch.lvl ∧
    (ch.startJob now w).heldTrim = ch.heldTrim ∧
    (ch.startJob now w).res = ch.res ∧
    (ch.startJob now w).heads = ch.heads ∧
    (ch.startJob now w).nextTick = ch.nextTick ∧
    (ch.startJob now w).tickPeriod = ch.tickPeriod ∧
    (ch.startJob now w).ambient = ch.ambient ∧
    (ch.startJob now w).ambientSet = ch.ambientSet ∧
    (ch.startJob now w).mon = ch.mon ∧
    (ch.startJob now w).set = ch.set ∧
    (ch.startJob now w).injectMemory = ch.injectMemory ∧
    (ch.startJob now w).image = ch.image ∧
    (ch.startJob now w).jnl = ch.jnl :=
  ⟨rfl, rfl, rfl, rfl, rfl, rfl, rfl, rfl, rfl, rfl, rfl, rfl, rfl, rfl, rfl, rfl, rfl, rfl, rfl, rfl, rfl, rfl, rfl, rfl⟩

/-- The page shadow is set (R138). -/
@[simp] theorem Channel.setPage_fields (p : Nibble) (ch : Channel) :
    (ch.setPage p).port = { ch.port with page := some p } ∧
    (ch.setPage p).uwg = ch.uwg ∧
    (ch.setPage p).uwgHeld = ch.uwgHeld ∧
    (ch.setPage p).sg = ch.sg ∧
    (ch.setPage p).sgHeld = ch.sgHeld ∧
    (ch.setPage p).disregard = ch.disregard ∧
    (ch.setPage p).queue = ch.queue ∧
    (ch.setPage p).dwg = ch.dwg ∧
    (ch.setPage p).wu = ch.wu ∧
    (ch.setPage p).delayLine = ch.delayLine ∧
    (ch.setPage p).plan = ch.plan ∧
    (ch.setPage p).lvl = ch.lvl ∧
    (ch.setPage p).heldTrim = ch.heldTrim ∧
    (ch.setPage p).res = ch.res ∧
    (ch.setPage p).heads = ch.heads ∧
    (ch.setPage p).nextTick = ch.nextTick ∧
    (ch.setPage p).tickPeriod = ch.tickPeriod ∧
    (ch.setPage p).ambient = ch.ambient ∧
    (ch.setPage p).ambientSet = ch.ambientSet ∧
    (ch.setPage p).mon = ch.mon ∧
    (ch.setPage p).set = ch.set ∧
    (ch.setPage p).injectMemory = ch.injectMemory ∧
    (ch.setPage p).image = ch.image ∧
    (ch.setPage p).jnl = ch.jnl :=
  ⟨rfl, rfl, rfl, rfl, rfl, rfl, rfl, rfl, rfl, rfl, rfl, rfl, rfl, rfl, rfl, rfl, rfl, rfl, rfl, rfl, rfl, rfl, rfl, rfl⟩

/-- A change of the channel fields (R114). -/
@[simp] theorem Channel.setFields_fields (f : ChannelFields → ChannelFields) (ch : Channel) :
    (ch.setFields f).set = f ch.set ∧
    (ch.setFields f).uwg = ch.uwg ∧
    (ch.setFields f).uwgHeld = ch.uwgHeld ∧
    (ch.setFields f).sg = ch.sg ∧
    (ch.setFields f).sgHeld = ch.sgHeld ∧
    (ch.setFields f).disregard = ch.disregard ∧
    (ch.setFields f).queue = ch.queue ∧
    (ch.setFields f).dwg = ch.dwg ∧
    (ch.setFields f).wu = ch.wu ∧
    (ch.setFields f).delayLine = ch.delayLine ∧
    (ch.setFields f).plan = ch.plan ∧
    (ch.setFields f).lvl = ch.lvl ∧
    (ch.setFields f).heldTrim = ch.heldTrim ∧
    (ch.setFields f).res = ch.res ∧
    (ch.setFields f).heads = ch.heads ∧
    (ch.setFields f).nextTick = ch.nextTick ∧
    (ch.setFields f).tickPeriod = ch.tickPeriod ∧
    (ch.setFields f).ambient = ch.ambient ∧
    (ch.setFields f).ambientSet = ch.ambientSet ∧
    (ch.setFields f).mon = ch.mon ∧
    (ch.setFields f).injectMemory = ch.injectMemory ∧
    (ch.setFields f).port = ch.port ∧
    (ch.setFields f).image = ch.image ∧
    (ch.setFields f).jnl = ch.jnl :=
  ⟨rfl, rfl, rfl, rfl, rfl, rfl, rfl, rfl, rfl, rfl, rfl, rfl, rfl, rfl, rfl, rfl, rfl, rfl, rfl, rfl, rfl, rfl, rfl, rfl⟩

/-- A change of one burst record. -/
@[simp] theorem Channel.updRecord_fields (rise : Nat) (f : BurstRecord → BurstRecord) (ch : Channel) :
    (ch.updRecord rise f).queue = (ch.queue.map fun r => if r.rise = rise then f r else r) ∧
    (ch.updRecord rise f).uwg = ch.uwg ∧
    (ch.updRecord rise f).uwgHeld = ch.uwgHeld ∧
    (ch.updRecord rise f).sg = ch.sg ∧
    (ch.updRecord rise f).sgHeld = ch.sgHeld ∧
    (ch.updRecord rise f).disregard = ch.disregard ∧
    (ch.updRecord rise f).dwg = ch.dwg ∧
    (ch.updRecord rise f).wu = ch.wu ∧
    (ch.updRecord rise f).delayLine = ch.delayLine ∧
    (ch.updRecord rise f).plan = ch.plan ∧
    (ch.updRecord rise f).lvl = ch.lvl ∧
    (ch.updRecord rise f).heldTrim = ch.heldTrim ∧
    (ch.updRecord rise f).res = ch.res ∧
    (ch.updRecord rise f).heads = ch.heads ∧
    (ch.updRecord rise f).nextTick = ch.nextTick ∧
    (ch.updRecord rise f).tickPeriod = ch.tickPeriod ∧
    (ch.updRecord rise f).ambient = ch.ambient ∧
    (ch.updRecord rise f).ambientSet = ch.ambientSet ∧
    (ch.updRecord rise f).mon = ch.mon ∧
    (ch.updRecord rise f).set = ch.set ∧
    (ch.updRecord rise f).injectMemory = ch.injectMemory ∧
    (ch.updRecord rise f).port = ch.port ∧
    (ch.updRecord rise f).image = ch.image ∧
    (ch.updRecord rise f).jnl = ch.jnl :=
  ⟨rfl, rfl, rfl, rfl, rfl, rfl, rfl, rfl, rfl, rfl, rfl, rfl, rfl, rfl, rfl, rfl, rfl, rfl, rfl, rfl, rfl, rfl, rfl, rfl⟩

/-- A byte in the level image (R147). -/
@[simp] theorem Channel.imageWrite_fields (addr : Addr) (data : Byte) (ch : Channel) :
    (ch.imageWrite addr data).image = ch.image.write1 addr data ∧
    (ch.imageWrite addr data).uwg = ch.uwg ∧
    (ch.imageWrite addr data).uwgHeld = ch.uwgHeld ∧
    (ch.imageWrite addr data).sg = ch.sg ∧
    (ch.imageWrite addr data).sgHeld = ch.sgHeld ∧
    (ch.imageWrite addr data).disregard = ch.disregard ∧
    (ch.imageWrite addr data).queue = ch.queue ∧
    (ch.imageWrite addr data).dwg = ch.dwg ∧
    (ch.imageWrite addr data).wu = ch.wu ∧
    (ch.imageWrite addr data).delayLine = ch.delayLine ∧
    (ch.imageWrite addr data).plan = ch.plan ∧
    (ch.imageWrite addr data).lvl = ch.lvl ∧
    (ch.imageWrite addr data).heldTrim = ch.heldTrim ∧
    (ch.imageWrite addr data).res = ch.res ∧
    (ch.imageWrite addr data).heads = ch.heads ∧
    (ch.imageWrite addr data).nextTick = ch.nextTick ∧
    (ch.imageWrite addr data).tickPeriod = ch.tickPeriod ∧
    (ch.imageWrite addr data).ambient = ch.ambient ∧
    (ch.imageWrite addr data).ambientSet = ch.ambientSet ∧
    (ch.imageWrite addr data).mon = ch.mon ∧
    (ch.imageWrite addr data).set = ch.set ∧
    (ch.imageWrite addr data).injectMemory = ch.injectMemory ∧
    (ch.imageWrite addr data).port = ch.port ∧
    (ch.imageWrite addr data).jnl = ch.jnl :=
  ⟨rfl, rfl, rfl, rfl, rfl, rfl, rfl, rfl, rfl, rfl, rfl, rfl, rfl, rfl, rfl, rfl, rfl, rfl, rfl, rfl, rfl, rfl, rfl, rfl⟩

/-- An inject write (R128). -/
@[simp] theorem Channel.inject_fields (bit : Bool) (ch : Channel) :
    (ch.inject bit).injectMemory = bit ∧
    (ch.inject bit).mon = { ch.mon with armed := ch.mon.armed || (bit && !ch.injectMemory) } ∧
    (ch.inject bit).uwg = ch.uwg ∧
    (ch.inject bit).uwgHeld = ch.uwgHeld ∧
    (ch.inject bit).sg = ch.sg ∧
    (ch.inject bit).sgHeld = ch.sgHeld ∧
    (ch.inject bit).disregard = ch.disregard ∧
    (ch.inject bit).queue = ch.queue ∧
    (ch.inject bit).dwg = ch.dwg ∧
    (ch.inject bit).wu = ch.wu ∧
    (ch.inject bit).delayLine = ch.delayLine ∧
    (ch.inject bit).plan = ch.plan ∧
    (ch.inject bit).lvl = ch.lvl ∧
    (ch.inject bit).heldTrim = ch.heldTrim ∧
    (ch.inject bit).res = ch.res ∧
    (ch.inject bit).heads = ch.heads ∧
    (ch.inject bit).nextTick = ch.nextTick ∧
    (ch.inject bit).tickPeriod = ch.tickPeriod ∧
    (ch.inject bit).ambient = ch.ambient ∧
    (ch.inject bit).ambientSet = ch.ambientSet ∧
    (ch.inject bit).set = ch.set ∧
    (ch.inject bit).port = ch.port ∧
    (ch.inject bit).image = ch.image ∧
    (ch.inject bit).jnl = ch.jnl :=
  ⟨rfl, rfl, rfl, rfl, rfl, rfl, rfl, rfl, rfl, rfl, rfl, rfl, rfl, rfl, rfl, rfl, rfl, rfl, rfl, rfl, rfl, rfl, rfl, rfl⟩

end Sys2Proof.Machine
end

