-- ==== Sys2Proof/Laws/Ops.lean ====
section
/-! SUPPORT. What each shared operation over a channel leaves unchanged, and what the ones with a branch can do. -/

namespace Sys2Proof.Machine

/-- The release of R93 changes the reservation only. -/
@[simp] theorem Channel.releaseIfQuiet_frame (ch : Channel) :
    (ch.releaseIfQuiet).uwg = ch.uwg ∧
    (ch.releaseIfQuiet).uwgHeld = ch.uwgHeld ∧
    (ch.releaseIfQuiet).sg = ch.sg ∧
    (ch.releaseIfQuiet).sgHeld = ch.sgHeld ∧
    (ch.releaseIfQuiet).disregard = ch.disregard ∧
    (ch.releaseIfQuiet).queue = ch.queue ∧
    (ch.releaseIfQuiet).dwg = ch.dwg ∧
    (ch.releaseIfQuiet).wu = ch.wu ∧
    (ch.releaseIfQuiet).delayLine = ch.delayLine ∧
    (ch.releaseIfQuiet).plan = ch.plan ∧
    (ch.releaseIfQuiet).lvl = ch.lvl ∧
    (ch.releaseIfQuiet).heldTrim = ch.heldTrim ∧
    (ch.releaseIfQuiet).heads = ch.heads ∧
    (ch.releaseIfQuiet).nextTick = ch.nextTick ∧
    (ch.releaseIfQuiet).tickPeriod = ch.tickPeriod ∧
    (ch.releaseIfQuiet).ambient = ch.ambient ∧
    (ch.releaseIfQuiet).ambientSet = ch.ambientSet ∧
    (ch.releaseIfQuiet).mon = ch.mon ∧
    (ch.releaseIfQuiet).set = ch.set ∧
    (ch.releaseIfQuiet).injectMemory = ch.injectMemory ∧
    (ch.releaseIfQuiet).port = ch.port ∧
    (ch.releaseIfQuiet).image = ch.image ∧
    (ch.releaseIfQuiet).jnl = ch.jnl := by
  unfold Channel.releaseIfQuiet; split <;> simp

/-- A record that leaves changes the queue, and the reservation at most (R11, R93). -/
@[simp] theorem Channel.leave_frame (r : BurstRecord) (ch : Channel) :
    (ch.leave r).uwg = ch.uwg ∧
    (ch.leave r).uwgHeld = ch.uwgHeld ∧
    (ch.leave r).sg = ch.sg ∧
    (ch.leave r).sgHeld = ch.sgHeld ∧
    (ch.leave r).disregard = ch.disregard ∧
    (ch.leave r).dwg = ch.dwg ∧
    (ch.leave r).wu = ch.wu ∧
    (ch.leave r).delayLine = ch.delayLine ∧
    (ch.leave r).plan = ch.plan ∧
    (ch.leave r).lvl = ch.lvl ∧
    (ch.leave r).heldTrim = ch.heldTrim ∧
    (ch.leave r).heads = ch.heads ∧
    (ch.leave r).nextTick = ch.nextTick ∧
    (ch.leave r).tickPeriod = ch.tickPeriod ∧
    (ch.leave r).ambient = ch.ambient ∧
    (ch.leave r).ambientSet = ch.ambientSet ∧
    (ch.leave r).mon = ch.mon ∧
    (ch.leave r).set = ch.set ∧
    (ch.leave r).injectMemory = ch.injectMemory ∧
    (ch.leave r).port = ch.port ∧
    (ch.leave r).image = ch.image ∧
    (ch.leave r).jnl = ch.jnl := by
  simp [Channel.leave]

/-- A limit report posts at most (R81). -/
@[simp] theorem Channel.reportLimit_frame (r : BurstRecord) (ch : Channel) :
    (ch.reportLimit r).uwg = ch.uwg ∧
    (ch.reportLimit r).uwgHeld = ch.uwgHeld ∧
    (ch.reportLimit r).sg = ch.sg ∧
    (ch.reportLimit r).sgHeld = ch.sgHeld ∧
    (ch.reportLimit r).disregard = ch.disregard ∧
    (ch.reportLimit r).queue = ch.queue ∧
    (ch.reportLimit r).dwg = ch.dwg ∧
    (ch.reportLimit r).wu = ch.wu ∧
    (ch.reportLimit r).delayLine = ch.delayLine ∧
    (ch.reportLimit r).plan = ch.plan ∧
    (ch.reportLimit r).lvl = ch.lvl ∧
    (ch.reportLimit r).heldTrim = ch.heldTrim ∧
    (ch.reportLimit r).res = ch.res ∧
    (ch.reportLimit r).heads = ch.heads ∧
    (ch.reportLimit r).nextTick = ch.nextTick ∧
    (ch.reportLimit r).tickPeriod = ch.tickPeriod ∧
    (ch.reportLimit r).ambient = ch.ambient ∧
    (ch.reportLimit r).ambientSet = ch.ambientSet ∧
    (ch.reportLimit r).mon = ch.mon ∧
    (ch.reportLimit r).set = ch.set ∧
    (ch.reportLimit r).injectMemory = ch.injectMemory ∧
    (ch.reportLimit r).port = ch.port ∧
    (ch.reportLimit r).image = ch.image := by
  unfold Channel.reportLimit; split <;> simp

/-- A short-warm report posts at most (R43). -/
@[simp] theorem Channel.reportShortWarm_frame (now delay : Nat) (r : BurstRecord) (ch : Channel) :
    (ch.reportShortWarm now delay r).uwg = ch.uwg ∧
    (ch.reportShortWarm now delay r).uwgHeld = ch.uwgHeld ∧
    (ch.reportShortWarm now delay r).sg = ch.sg ∧
    (ch.reportShortWarm now delay r).sgHeld = ch.sgHeld ∧
    (ch.reportShortWarm now delay r).disregard = ch.disregard ∧
    (ch.reportShortWarm now delay r).queue = ch.queue ∧
    (ch.reportShortWarm now delay r).dwg = ch.dwg ∧
    (ch.reportShortWarm now delay r).wu = ch.wu ∧
    (ch.reportShortWarm now delay r).delayLine = ch.delayLine ∧
    (ch.reportShortWarm now delay r).plan = ch.plan ∧
    (ch.reportShortWarm now delay r).lvl = ch.lvl ∧
    (ch.reportShortWarm now delay r).heldTrim = ch.heldTrim ∧
    (ch.reportShortWarm now delay r).res = ch.res ∧
    (ch.reportShortWarm now delay r).heads = ch.heads ∧
    (ch.reportShortWarm now delay r).nextTick = ch.nextTick ∧
    (ch.reportShortWarm now delay r).tickPeriod = ch.tickPeriod ∧
    (ch.reportShortWarm now delay r).ambient = ch.ambient ∧
    (ch.reportShortWarm now delay r).ambientSet = ch.ambientSet ∧
    (ch.reportShortWarm now delay r).mon = ch.mon ∧
    (ch.reportShortWarm now delay r).set = ch.set ∧
    (ch.reportShortWarm now delay r).injectMemory = ch.injectMemory ∧
    (ch.reportShortWarm now delay r).port = ch.port ∧
    (ch.reportShortWarm now delay r).image = ch.image := by
  unfold Channel.reportShortWarm; split <;> simp

/-- The REST level follows: level and monitor at most (R30, R100). -/
@[simp] theorem Channel.refreshRest_frame (now : Nat) (ch : Channel) :
    (ch.refreshRest now).uwg = ch.uwg ∧
    (ch.refreshRest now).uwgHeld = ch.uwgHeld ∧
    (ch.refreshRest now).sg = ch.sg ∧
    (ch.refreshRest now).sgHeld = ch.sgHeld ∧
    (ch.refreshRest now).disregard = ch.disregard ∧
    (ch.refreshRest now).queue = ch.queue ∧
    (ch.refreshRest now).dwg = ch.dwg ∧
    (ch.refreshRest now).wu = ch.wu ∧
    (ch.refreshRest now).delayLine = ch.delayLine ∧
    (ch.refreshRest now).plan = ch.plan ∧
    (ch.refreshRest now).heldTrim = ch.heldTrim ∧
    (ch.refreshRest now).res = ch.res ∧
    (ch.refreshRest now).heads = ch.heads ∧
    (ch.refreshRest now).nextTick = ch.nextTick ∧
    (ch.refreshRest now).tickPeriod = ch.tickPeriod ∧
    (ch.refreshRest now).ambient = ch.ambient ∧
    (ch.refreshRest now).ambientSet = ch.ambientSet ∧
    (ch.refreshRest now).set = ch.set ∧
    (ch.refreshRest now).injectMemory = ch.injectMemory ∧
    (ch.refreshRest now).port = ch.port ∧
    (ch.refreshRest now).image = ch.image ∧
    (ch.refreshRest now).jnl = ch.jnl := by
  unfold Channel.refreshRest; split <;> simp

/-- An entry into a plan state (R28). -/
@[simp] theorem Channel.enterRest_frame (now : Nat) (ch : Channel) :
    (ch.enterRest now).uwg = ch.uwg ∧
    (ch.enterRest now).uwgHeld = ch.uwgHeld ∧
    (ch.enterRest now).sg = ch.sg ∧
    (ch.enterRest now).sgHeld = ch.sgHeld ∧
    (ch.enterRest now).disregard = ch.disregard ∧
    (ch.enterRest now).queue = ch.queue ∧
    (ch.enterRest now).wu = ch.wu ∧
    (ch.enterRest now).delayLine = ch.delayLine ∧
    (ch.enterRest now).res = ch.res ∧
    (ch.enterRest now).heads = ch.heads ∧
    (ch.enterRest now).nextTick = ch.nextTick ∧
    (ch.enterRest now).tickPeriod = ch.tickPeriod ∧
    (ch.enterRest now).ambient = ch.ambient ∧
    (ch.enterRest now).ambientSet = ch.ambientSet ∧
    (ch.enterRest now).set = ch.set ∧
    (ch.enterRest now).injectMemory = ch.injectMemory ∧
    (ch.enterRest now).port = ch.port ∧
    (ch.enterRest now).image = ch.image ∧
    (ch.enterRest now).jnl = ch.jnl := by
  simp [Channel.enterRest]

/-- An entry into a plan state (R28). -/
@[simp] theorem Channel.enterLead_frame (now : Nat) (ch : Channel) :
    (ch.enterLead now).uwg = ch.uwg ∧
    (ch.enterLead now).uwgHeld = ch.uwgHeld ∧
    (ch.enterLead now).sg = ch.sg ∧
    (ch.enterLead now).sgHeld = ch.sgHeld ∧
    (ch.enterLead now).disregard = ch.disregard ∧
    (ch.enterLead now).queue = ch.queue ∧
    (ch.enterLead now).wu = ch.wu ∧
    (ch.enterLead now).delayLine = ch.delayLine ∧
    (ch.enterLead now).res = ch.res ∧
    (ch.enterLead now).heads = ch.heads ∧
    (ch.enterLead now).nextTick = ch.nextTick ∧
    (ch.enterLead now).tickPeriod = ch.tickPeriod ∧
    (ch.enterLead now).ambient = ch.ambient ∧
    (ch.enterLead now).ambientSet = ch.ambientSet ∧
    (ch.enterLead now).set = ch.set ∧
    (ch.enterLead now).injectMemory = ch.injectMemory ∧
    (ch.enterLead now).port = ch.port ∧
    (ch.enterLead now).image = ch.image ∧
    (ch.enterLead now).jnl = ch.jnl := by
  simp [Channel.enterLead]

/-- An entry into a plan state (R28). -/
@[simp] theorem Channel.enterFade_frame (now : Nat) (r : BurstRecord) (ch : Channel) :
    (ch.enterFade now r).uwg = ch.uwg ∧
    (ch.enterFade now r).uwgHeld = ch.uwgHeld ∧
    (ch.enterFade now r).sg = ch.sg ∧
    (ch.enterFade now r).sgHeld = ch.sgHeld ∧
    (ch.enterFade now r).disregard = ch.disregard ∧
    (ch.enterFade now r).queue = ch.queue ∧
    (ch.enterFade now r).wu = ch.wu ∧
    (ch.enterFade now r).delayLine = ch.delayLine ∧
    (ch.enterFade now r).res = ch.res ∧
    (ch.enterFade now r).heads = ch.heads ∧
    (ch.enterFade now r).nextTick = ch.nextTick ∧
    (ch.enterFade now r).tickPeriod = ch.tickPeriod ∧
    (ch.enterFade now r).ambient = ch.ambient ∧
    (ch.enterFade now r).ambientSet = ch.ambientSet ∧
    (ch.enterFade now r).set = ch.set ∧
    (ch.enterFade now r).injectMemory = ch.injectMemory ∧
    (ch.enterFade now r).port = ch.port ∧
    (ch.enterFade now r).image = ch.image ∧
    (ch.enterFade now r).jnl = ch.jnl := by
  simp [Channel.enterFade]

/-- An entry into a plan state (R28). -/
@[simp] theorem Channel.enterWedge_frame (now : Nat) (fromRest : Bool) (ch : Channel) :
    (ch.enterWedge now fromRest).uwg = ch.uwg ∧
    (ch.enterWedge now fromRest).uwgHeld = ch.uwgHeld ∧
    (ch.enterWedge now fromRest).sg = ch.sg ∧
    (ch.enterWedge now fromRest).sgHeld = ch.sgHeld ∧
    (ch.enterWedge now fromRest).disregard = ch.disregard ∧
    (ch.enterWedge now fromRest).queue = ch.queue ∧
    (ch.enterWedge now fromRest).wu = ch.wu ∧
    (ch.enterWedge now fromRest).delayLine = ch.delayLine ∧
    (ch.enterWedge now fromRest).res = ch.res ∧
    (ch.enterWedge now fromRest).heads = ch.heads ∧
    (ch.enterWedge now fromRest).nextTick = ch.nextTick ∧
    (ch.enterWedge now fromRest).tickPeriod = ch.tickPeriod ∧
    (ch.enterWedge now fromRest).ambient = ch.ambient ∧
    (ch.enterWedge now fromRest).ambientSet = ch.ambientSet ∧
    (ch.enterWedge now fromRest).set = ch.set ∧
    (ch.enterWedge now fromRest).injectMemory = ch.injectMemory ∧
    (ch.enterWedge now fromRest).port = ch.port ∧
    (ch.enterWedge now fromRest).image = ch.image ∧
    (ch.enterWedge now fromRest).jnl = ch.jnl := by
  simp [Channel.enterWedge]

/-- An entry into a plan state (R28). -/
@[simp] theorem Channel.enterKept_frame (now : Nat) (p : PlanState) (r : BurstRecord) (ch : Channel) :
    (ch.enterKept now p r).uwg = ch.uwg ∧
    (ch.enterKept now p r).uwgHeld = ch.uwgHeld ∧
    (ch.enterKept now p r).sg = ch.sg ∧
    (ch.enterKept now p r).sgHeld = ch.sgHeld ∧
    (ch.enterKept now p r).disregard = ch.disregard ∧
    (ch.enterKept now p r).queue = ch.queue ∧
    (ch.enterKept now p r).wu = ch.wu ∧
    (ch.enterKept now p r).delayLine = ch.delayLine ∧
    (ch.enterKept now p r).res = ch.res ∧
    (ch.enterKept now p r).heads = ch.heads ∧
    (ch.enterKept now p r).nextTick = ch.nextTick ∧
    (ch.enterKept now p r).tickPeriod = ch.tickPeriod ∧
    (ch.enterKept now p r).ambient = ch.ambient ∧
    (ch.enterKept now p r).ambientSet = ch.ambientSet ∧
    (ch.enterKept now p r).set = ch.set ∧
    (ch.enterKept now p r).injectMemory = ch.injectMemory ∧
    (ch.enterKept now p r).port = ch.port ∧
    (ch.enterKept now p r).image = ch.image ∧
    (ch.enterKept now p r).jnl = ch.jnl := by
  simp [Channel.enterKept]

/-- An entry with a fresh set (R79). -/
@[simp] theorem Channel.enterFresh_frame (now : Nat) (p : PlanState) (r : BurstRecord) (ch : Channel) :
    (ch.enterFresh now p r).uwg = ch.uwg ∧
    (ch.enterFresh now p r).uwgHeld = ch.uwgHeld ∧
    (ch.enterFresh now p r).sg = ch.sg ∧
    (ch.enterFresh now p r).sgHeld = ch.sgHeld ∧
    (ch.enterFresh now p r).disregard = ch.disregard ∧
    (ch.enterFresh now p r).queue = ch.queue ∧
    (ch.enterFresh now p r).wu = ch.wu ∧
    (ch.enterFresh now p r).delayLine = ch.delayLine ∧
    (ch.enterFresh now p r).res = ch.res ∧
    (ch.enterFresh now p r).heads = ch.heads ∧
    (ch.enterFresh now p r).nextTick = ch.nextTick ∧
    (ch.enterFresh now p r).tickPeriod = ch.tickPeriod ∧
    (ch.enterFresh now p r).ambient = ch.ambient ∧
    (ch.enterFresh now p r).ambientSet = ch.ambientSet ∧
    (ch.enterFresh now p r).set = ch.set ∧
    (ch.enterFresh now p r).injectMemory = ch.injectMemory ∧
    (ch.enterFresh now p r).port = ch.port ∧
    (ch.enterFresh now p r).image = ch.image := by
  simp [Channel.enterFresh]

/-- A hand-over (R34). -/
@[simp] theorem Channel.handOver_frame (now : Nat) (p : PlanState) (old r : BurstRecord) (ch : Channel) :
    (ch.handOver now p old r).uwg = ch.uwg ∧
    (ch.handOver now p old r).uwgHeld = ch.uwgHeld ∧
    (ch.handOver now p old r).sg = ch.sg ∧
    (ch.handOver now p old r).sgHeld = ch.sgHeld ∧
    (ch.handOver now p old r).disregard = ch.disregard ∧
    (ch.handOver now p old r).queue = ch.queue ∧
    (ch.handOver now p old r).wu = ch.wu ∧
    (ch.handOver now p old r).delayLine = ch.delayLine ∧
    (ch.handOver now p old r).res = ch.res ∧
    (ch.handOver now p old r).heads = ch.heads ∧
    (ch.handOver now p old r).nextTick = ch.nextTick ∧
    (ch.handOver now p old r).tickPeriod = ch.tickPeriod ∧
    (ch.handOver now p old r).ambient = ch.ambient ∧
    (ch.handOver now p old r).ambientSet = ch.ambientSet ∧
    (ch.handOver now p old r).set = ch.set ∧
    (ch.handOver now p old r).injectMemory = ch.injectMemory ∧
    (ch.handOver now p old r).port = ch.port ∧
    (ch.handOver now p old r).image = ch.image := by
  unfold Channel.handOver; split <;> simp

/-- The placement of a tail end (R38). -/
@[simp] theorem Channel.placeAfter_frame (now delay : Nat) (old : BurstRecord) (ch : Channel) :
    (ch.placeAfter now delay old).uwg = ch.uwg ∧
    (ch.placeAfter now delay old).uwgHeld = ch.uwgHeld ∧
    (ch.placeAfter now delay old).sg = ch.sg ∧
    (ch.placeAfter now delay old).sgHeld = ch.sgHeld ∧
    (ch.placeAfter now delay old).disregard = ch.disregard ∧
    (ch.placeAfter now delay old).queue = ch.queue ∧
    (ch.placeAfter now delay old).wu = ch.wu ∧
    (ch.placeAfter now delay old).delayLine = ch.delayLine ∧
    (ch.placeAfter now delay old).res = ch.res ∧
    (ch.placeAfter now delay old).heads = ch.heads ∧
    (ch.placeAfter now delay old).nextTick = ch.nextTick ∧
    (ch.placeAfter now delay old).tickPeriod = ch.tickPeriod ∧
    (ch.placeAfter now delay old).ambient = ch.ambient ∧
    (ch.placeAfter now delay old).ambientSet = ch.ambientSet ∧
    (ch.placeAfter now delay old).set = ch.set ∧
    (ch.placeAfter now delay old).injectMemory = ch.injectMemory ∧
    (ch.placeAfter now delay old).port = ch.port ∧
    (ch.placeAfter now delay old).image = ch.image := by
  unfold Channel.placeAfter; split <;> [simp; split <;> simp]

/-- A re-aim (R43). -/
@[simp] theorem Channel.reaim_frame (now delay : Nat) (ch : Channel) :
    (ch.reaim now delay).uwg = ch.uwg ∧
    (ch.reaim now delay).uwgHeld = ch.uwgHeld ∧
    (ch.reaim now delay).sg = ch.sg ∧
    (ch.reaim now delay).sgHeld = ch.sgHeld ∧
    (ch.reaim now delay).disregard = ch.disregard ∧
    (ch.reaim now delay).queue = ch.queue ∧
    (ch.reaim now delay).wu = ch.wu ∧
    (ch.reaim now delay).delayLine = ch.delayLine ∧
    (ch.reaim now delay).res = ch.res ∧
    (ch.reaim now delay).heads = ch.heads ∧
    (ch.reaim now delay).nextTick = ch.nextTick ∧
    (ch.reaim now delay).tickPeriod = ch.tickPeriod ∧
    (ch.reaim now delay).ambient = ch.ambient ∧
    (ch.reaim now delay).ambientSet = ch.ambientSet ∧
    (ch.reaim now delay).set = ch.set ∧
    (ch.reaim now delay).injectMemory = ch.injectMemory ∧
    (ch.reaim now delay).port = ch.port ∧
    (ch.reaim now delay).image = ch.image := by
  unfold Channel.reaim; split <;> [simp; split <;> [split <;> simp; simp]]

/-- The Planner after a cut of its front record (R45, R46). -/
@[simp] theorem Channel.afterCut_frame (now delay : Nat) (ch : Channel) :
    (ch.afterCut now delay).uwg = ch.uwg ∧
    (ch.afterCut now delay).uwgHeld = ch.uwgHeld ∧
    (ch.afterCut now delay).sg = ch.sg ∧
    (ch.afterCut now delay).sgHeld = ch.sgHeld ∧
    (ch.afterCut now delay).disregard = ch.disregard ∧
    (ch.afterCut now delay).queue = ch.queue ∧
    (ch.afterCut now delay).wu = ch.wu ∧
    (ch.afterCut now delay).delayLine = ch.delayLine ∧
    (ch.afterCut now delay).res = ch.res ∧
    (ch.afterCut now delay).heads = ch.heads ∧
    (ch.afterCut now delay).nextTick = ch.nextTick ∧
    (ch.afterCut now delay).tickPeriod = ch.tickPeriod ∧
    (ch.afterCut now delay).ambient = ch.ambient ∧
    (ch.afterCut now delay).ambientSet = ch.ambientSet ∧
    (ch.afterCut now delay).set = ch.set ∧
    (ch.afterCut now delay).injectMemory = ch.injectMemory ∧
    (ch.afterCut now delay).port = ch.port ∧
    (ch.afterCut now delay).image = ch.image := by
  unfold Channel.afterCut; split <;> simp

/-- A new front record is taken up (R31). -/
@[simp] theorem Channel.enterService_frame (now : Nat) (ch : Channel) :
    (ch.enterService now).uwg = ch.uwg ∧
    (ch.enterService now).uwgHeld = ch.uwgHeld ∧
    (ch.enterService now).sg = ch.sg ∧
    (ch.enterService now).sgHeld = ch.sgHeld ∧
    (ch.enterService now).disregard = ch.disregard ∧
    (ch.enterService now).queue = ch.queue ∧
    (ch.enterService now).wu = ch.wu ∧
    (ch.enterService now).delayLine = ch.delayLine ∧
    (ch.enterService now).res = ch.res ∧
    (ch.enterService now).heads = ch.heads ∧
    (ch.enterService now).nextTick = ch.nextTick ∧
    (ch.enterService now).tickPeriod = ch.tickPeriod ∧
    (ch.enterService now).ambient = ch.ambient ∧
    (ch.enterService now).ambientSet = ch.ambientSet ∧
    (ch.enterService now).set = ch.set ∧
    (ch.enterService now).injectMemory = ch.injectMemory ∧
    (ch.enterService now).port = ch.port ∧
    (ch.enterService now).image = ch.image ∧
    (ch.enterService now).jnl = ch.jnl := by
  unfold Channel.enterService; split <;> [split <;> simp; simp]

/-- A truncation (R21). -/
@[simp] theorem Channel.truncate_frame (now : Nat) (why : CutReason) (r : BurstRecord) (ch : Channel) :
    (ch.truncate now why r).uwg = ch.uwg ∧
    (ch.truncate now why r).uwgHeld = ch.uwgHeld ∧
    (ch.truncate now why r).sg = ch.sg ∧
    (ch.truncate now why r).sgHeld = ch.sgHeld ∧
    (ch.truncate now why r).disregard = ch.disregard ∧
    (ch.truncate now why r).delayLine = ch.delayLine ∧
    (ch.truncate now why r).plan = ch.plan ∧
    (ch.truncate now why r).lvl = ch.lvl ∧
    (ch.truncate now why r).heldTrim = ch.heldTrim ∧
    (ch.truncate now why r).heads = ch.heads ∧
    (ch.truncate now why r).nextTick = ch.nextTick ∧
    (ch.truncate now why r).tickPeriod = ch.tickPeriod ∧
    (ch.truncate now why r).ambient = ch.ambient ∧
    (ch.truncate now why r).ambientSet = ch.ambientSet ∧
    (ch.truncate now why r).mon = ch.mon ∧
    (ch.truncate now why r).set = ch.set ∧
    (ch.truncate now why r).injectMemory = ch.injectMemory ∧
    (ch.truncate now why r).port = ch.port ∧
    (ch.truncate now why r).image = ch.image := by
  simp [Channel.truncate]

/-- A truncation of the record being written (R23). -/
@[simp] theorem Channel.truncateWriting_frame (now : Nat) (why : CutReason) (ch : Channel) :
    (ch.truncateWriting now why).uwg = ch.uwg ∧
    (ch.truncateWriting now why).uwgHeld = ch.uwgHeld ∧
    (ch.truncateWriting now why).sg = ch.sg ∧
    (ch.truncateWriting now why).sgHeld = ch.sgHeld ∧
    (ch.truncateWriting now why).disregard = ch.disregard ∧
    (ch.truncateWriting now why).delayLine = ch.delayLine ∧
    (ch.truncateWriting now why).plan = ch.plan ∧
    (ch.truncateWriting now why).lvl = ch.lvl ∧
    (ch.truncateWriting now why).heldTrim = ch.heldTrim ∧
    (ch.truncateWriting now why).heads = ch.heads ∧
    (ch.truncateWriting now why).nextTick = ch.nextTick ∧
    (ch.truncateWriting now why).tickPeriod = ch.tickPeriod ∧
    (ch.truncateWriting now why).ambient = ch.ambient ∧
    (ch.truncateWriting now why).ambientSet = ch.ambientSet ∧
    (ch.truncateWriting now why).mon = ch.mon ∧
    (ch.truncateWriting now why).set = ch.set ∧
    (ch.truncateWriting now why).injectMemory = ch.injectMemory ∧
    (ch.truncateWriting now why).port = ch.port ∧
    (ch.truncateWriting now why).image = ch.image := by
  unfold Channel.truncateWriting; split <;> [split <;> simp; simp]

/-- A fold of posts changes the Journal only. -/
@[simp] theorem Channel.foldPost_frame (why : RefuseReason) (q : List BurstRecord) (ch : Channel) :
    (q.foldl (fun x r => x.post .refused (headCode r.head) why.code) ch) =
      { ch with jnl := q.foldl (fun j r => j.post .refused (headCode r.head) why.code) ch.jnl } := by
  induction q generalizing ch with
  | nil => rfl
  | cons r q ih => simp only [List.foldl_cons, ih]; rfl

/-- The refusal of every live record (R23). -/
@[simp] theorem Channel.refuseAll_frame (why : RefuseReason) (ch : Channel) :
    (ch.refuseAll why).uwg = ch.uwg ∧
    (ch.refuseAll why).uwgHeld = ch.uwgHeld ∧
    (ch.refuseAll why).sg = ch.sg ∧
    (ch.refuseAll why).sgHeld = ch.sgHeld ∧
    (ch.refuseAll why).disregard = ch.disregard ∧
    (ch.refuseAll why).dwg = ch.dwg ∧
    (ch.refuseAll why).wu = ch.wu ∧
    (ch.refuseAll why).delayLine = ch.delayLine ∧
    (ch.refuseAll why).plan = ch.plan ∧
    (ch.refuseAll why).lvl = ch.lvl ∧
    (ch.refuseAll why).heldTrim = ch.heldTrim ∧
    (ch.refuseAll why).res = ch.res ∧
    (ch.refuseAll why).heads = ch.heads ∧
    (ch.refuseAll why).nextTick = ch.nextTick ∧
    (ch.refuseAll why).tickPeriod = ch.tickPeriod ∧
    (ch.refuseAll why).ambient = ch.ambient ∧
    (ch.refuseAll why).ambientSet = ch.ambientSet ∧
    (ch.refuseAll why).mon = ch.mon ∧
    (ch.refuseAll why).set = ch.set ∧
    (ch.refuseAll why).injectMemory = ch.injectMemory ∧
    (ch.refuseAll why).port = ch.port ∧
    (ch.refuseAll why).image = ch.image := by
  simp [Channel.refuseAll]

/-- An entry into FAULT or HALTED (R49, R51). -/
@[simp] theorem Channel.shutDown_frame (now : Nat) (p : PlanState) (cut : CutReason) (why : RefuseReason) (ch : Channel) :
    (ch.shutDown now p cut why).uwg = ch.uwg ∧
    (ch.shutDown now p cut why).uwgHeld = ch.uwgHeld ∧
    (ch.shutDown now p cut why).sg = ch.sg ∧
    (ch.shutDown now p cut why).sgHeld = ch.sgHeld ∧
    (ch.shutDown now p cut why).disregard = ch.disregard ∧
    (ch.shutDown now p cut why).delayLine = ch.delayLine ∧
    (ch.shutDown now p cut why).heads = ch.heads ∧
    (ch.shutDown now p cut why).nextTick = ch.nextTick ∧
    (ch.shutDown now p cut why).tickPeriod = ch.tickPeriod ∧
    (ch.shutDown now p cut why).ambient = ch.ambient ∧
    (ch.shutDown now p cut why).ambientSet = ch.ambientSet ∧
    (ch.shutDown now p cut why).set = ch.set ∧
    (ch.shutDown now p cut why).injectMemory = ch.injectMemory ∧
    (ch.shutDown now p cut why).port = ch.port ∧
    (ch.shutDown now p cut why).image = ch.image := by
  simp [Channel.shutDown]

/-- An entry into HALTED (R49). -/
@[simp] theorem Channel.enterHalted_frame (now : Nat) (ch : Channel) :
    (ch.enterHalted now).uwg = ch.uwg ∧
    (ch.enterHalted now).uwgHeld = ch.uwgHeld ∧
    (ch.enterHalted now).sg = ch.sg ∧
    (ch.enterHalted now).sgHeld = ch.sgHeld ∧
    (ch.enterHalted now).disregard = ch.disregard ∧
    (ch.enterHalted now).delayLine = ch.delayLine ∧
    (ch.enterHalted now).heads = ch.heads ∧
    (ch.enterHalted now).nextTick = ch.nextTick ∧
    (ch.enterHalted now).tickPeriod = ch.tickPeriod ∧
    (ch.enterHalted now).ambient = ch.ambient ∧
    (ch.enterHalted now).ambientSet = ch.ambientSet ∧
    (ch.enterHalted now).set = ch.set ∧
    (ch.enterHalted now).injectMemory = ch.injectMemory ∧
    (ch.enterHalted now).port = ch.port ∧
    (ch.enterHalted now).image = ch.image := by
  unfold Channel.enterHalted; split <;> simp

/-- An entry into FAULT (R51). -/
@[simp] theorem Channel.enterFault_frame (now : Nat) (k : EventKind) (ch : Channel) :
    (ch.enterFault now k).uwg = ch.uwg ∧
    (ch.enterFault now k).uwgHeld = ch.uwgHeld ∧
    (ch.enterFault now k).sg = ch.sg ∧
    (ch.enterFault now k).sgHeld = ch.sgHeld ∧
    (ch.enterFault now k).disregard = ch.disregard ∧
    (ch.enterFault now k).delayLine = ch.delayLine ∧
    (ch.enterFault now k).heads = ch.heads ∧
    (ch.enterFault now k).nextTick = ch.nextTick ∧
    (ch.enterFault now k).tickPeriod = ch.tickPeriod ∧
    (ch.enterFault now k).ambient = ch.ambient ∧
    (ch.enterFault now k).ambientSet = ch.ambientSet ∧
    (ch.enterFault now k).set = ch.set ∧
    (ch.enterFault now k).injectMemory = ch.injectMemory ∧
    (ch.enterFault now k).port = ch.port ∧
    (ch.enterFault now k).image = ch.image := by
  unfold Channel.enterFault; split <;> simp

/-- A drift update (R80). -/
@[simp] theorem Channel.drift_frame (ch : Channel) :
    (ch.drift).uwg = ch.uwg ∧
    (ch.drift).uwgHeld = ch.uwgHeld ∧
    (ch.drift).sg = ch.sg ∧
    (ch.drift).sgHeld = ch.sgHeld ∧
    (ch.drift).disregard = ch.disregard ∧
    (ch.drift).queue = ch.queue ∧
    (ch.drift).dwg = ch.dwg ∧
    (ch.drift).wu = ch.wu ∧
    (ch.drift).delayLine = ch.delayLine ∧
    (ch.drift).plan = ch.plan ∧
    (ch.drift).lvl = ch.lvl ∧
    (ch.drift).res = ch.res ∧
    (ch.drift).heads = ch.heads ∧
    (ch.drift).nextTick = ch.nextTick ∧
    (ch.drift).tickPeriod = ch.tickPeriod ∧
    (ch.drift).ambient = ch.ambient ∧
    (ch.drift).ambientSet = ch.ambientSet ∧
    (ch.drift).mon = ch.mon ∧
    (ch.drift).set = ch.set ∧
    (ch.drift).injectMemory = ch.injectMemory ∧
    (ch.drift).port = ch.port ∧
    (ch.drift).image = ch.image := by
  unfold Channel.drift; split <;> [split <;> simp; simp]

/-- The end of an inserted sequence (R140). -/
@[simp] theorem Channel.endSequence_frame (o : SeqOwner) (ch : Channel) :
    (ch.endSequence o).uwg = ch.uwg ∧
    (ch.endSequence o).uwgHeld = ch.uwgHeld ∧
    (ch.endSequence o).sg = ch.sg ∧
    (ch.endSequence o).sgHeld = ch.sgHeld ∧
    (ch.endSequence o).disregard = ch.disregard ∧
    (ch.endSequence o).queue = ch.queue ∧
    (ch.endSequence o).dwg = ch.dwg ∧
    (ch.endSequence o).wu = ch.wu ∧
    (ch.endSequence o).delayLine = ch.delayLine ∧
    (ch.endSequence o).plan = ch.plan ∧
    (ch.endSequence o).lvl = ch.lvl ∧
    (ch.endSequence o).heldTrim = ch.heldTrim ∧
    (ch.endSequence o).res = ch.res ∧
    (ch.endSequence o).heads = ch.heads ∧
    (ch.endSequence o).nextTick = ch.nextTick ∧
    (ch.endSequence o).tickPeriod = ch.tickPeriod ∧
    (ch.endSequence o).ambient = ch.ambient ∧
    (ch.endSequence o).ambientSet = ch.ambientSet ∧
    (ch.endSequence o).mon = ch.mon ∧
    (ch.endSequence o).set = ch.set ∧
    (ch.endSequence o).injectMemory = ch.injectMemory ∧
    (ch.endSequence o).image = ch.image := by
  unfold Channel.endSequence; split <;> simp

/-- The next frame of an inserted sequence, or its end (R140). -/
@[simp] theorem Channel.advance_frame (now : Nat) (o : SeqOwner) (rest : List InsertedFrame) (ch : Channel) :
    (ch.advance now o rest).uwg = ch.uwg ∧
    (ch.advance now o rest).uwgHeld = ch.uwgHeld ∧
    (ch.advance now o rest).sg = ch.sg ∧
    (ch.advance now o rest).sgHeld = ch.sgHeld ∧
    (ch.advance now o rest).disregard = ch.disregard ∧
    (ch.advance now o rest).queue = ch.queue ∧
    (ch.advance now o rest).dwg = ch.dwg ∧
    (ch.advance now o rest).wu = ch.wu ∧
    (ch.advance now o rest).delayLine = ch.delayLine ∧
    (ch.advance now o rest).plan = ch.plan ∧
    (ch.advance now o rest).lvl = ch.lvl ∧
    (ch.advance now o rest).heldTrim = ch.heldTrim ∧
    (ch.advance now o rest).res = ch.res ∧
    (ch.advance now o rest).heads = ch.heads ∧
    (ch.advance now o rest).nextTick = ch.nextTick ∧
    (ch.advance now o rest).tickPeriod = ch.tickPeriod ∧
    (ch.advance now o rest).ambient = ch.ambient ∧
    (ch.advance now o rest).ambientSet = ch.ambientSet ∧
    (ch.advance now o rest).mon = ch.mon ∧
    (ch.advance now o rest).set = ch.set ∧
    (ch.advance now o rest).injectMemory = ch.injectMemory ∧
    (ch.advance now o rest).image = ch.image := by
  unfold Channel.advance; split <;> simp

/-- The delivery of a read (R144). -/
@[simp] theorem Channel.deliverRead_frame (l : LoadedCopy) (addr : Addr) (byte : Byte) (ch : Channel) :
    (ch.deliverRead l addr byte).uwg = ch.uwg ∧
    (ch.deliverRead l addr byte).uwgHeld = ch.uwgHeld ∧
    (ch.deliverRead l addr byte).sg = ch.sg ∧
    (ch.deliverRead l addr byte).sgHeld = ch.sgHeld ∧
    (ch.deliverRead l addr byte).disregard = ch.disregard ∧
    (ch.deliverRead l addr byte).queue = ch.queue ∧
    (ch.deliverRead l addr byte).dwg = ch.dwg ∧
    (ch.deliverRead l addr byte).wu = ch.wu ∧
    (ch.deliverRead l addr byte).delayLine = ch.delayLine ∧
    (ch.deliverRead l addr byte).plan = ch.plan ∧
    (ch.deliverRead l addr byte).lvl = ch.lvl ∧
    (ch.deliverRead l addr byte).heldTrim = ch.heldTrim ∧
    (ch.deliverRead l addr byte).res = ch.res ∧
    (ch.deliverRead l addr byte).heads = ch.heads ∧
    (ch.deliverRead l addr byte).nextTick = ch.nextTick ∧
    (ch.deliverRead l addr byte).tickPeriod = ch.tickPeriod ∧
    (ch.deliverRead l addr byte).mon = ch.mon ∧
    (ch.deliverRead l addr byte).set = ch.set ∧
    (ch.deliverRead l addr byte).injectMemory = ch.injectMemory ∧
    (ch.deliverRead l addr byte).port = ch.port ∧
    (ch.deliverRead l addr byte).image = ch.image := by
  unfold Channel.deliverRead Channel.deliverSummary Channel.deliverSlot Channel.deliverTemperature; repeat' split
  all_goals simp

end Sys2Proof.Machine
end

