-- ==== Sys2Proof/Laws/Journal.lean ====
section
/-! SUPPORT. What posting can do to a Journal (R162), and which operations of a channel touch its Journal by posting
only. -/

namespace Sys2Proof.Machine

/-- All that posting can do (R162): a repeat of a pending key, a new record, or a drop. -/
theorem Journal.post_cases (k : EventKind) (head detail : Byte) (j : Journal) :
    (j.pending.any (·.hasKey k head detail) = true ∧ j.post k head detail =
      { j with pending := j.pending.map fun p => if p.hasKey k head detail then p.again else p }) ∨
    (j.pending.any (·.hasKey k head detail) = false ∧ j.pending.length < 12 ∧
      j.post k head detail = { j with pending := j.pending ++ [⟨k, head, detail, 1⟩] }) ∨
    (j.pending.any (·.hasKey k head detail) = false ∧ 12 ≤ j.pending.length ∧
      j.post k head detail = { j with dropped := true }) := by
  unfold Journal.post Config.pendingDepth
  split
  · exact .inl ⟨‹_›, rfl⟩
  · split
    · exact .inr (.inl ⟨by simpa using ‹¬ j.pending.any _ = true›, ‹_›, rfl⟩)
    · exact .inr (.inr ⟨by simpa using ‹¬ j.pending.any _ = true›, by omega, rfl⟩)

/-- Posting leaves the slots, the next-write index and the last written summary. -/
@[simp] theorem Journal.post_fields (k : EventKind) (head detail : Byte) (j : Journal) :
    (j.post k head detail).slots = j.slots ∧ (j.post k head detail).nextWrite = j.nextWrite ∧
    (j.post k head detail).lastSummary = j.lastSummary := by
  rcases j.post_cases k head detail with ⟨-, h⟩ | ⟨-, -, h⟩ | ⟨-, -, h⟩ <;> simp [h]

/-- A repeat keeps the key. -/
@[simp] theorem PendingRecord.again_fields (p : PendingRecord) :
    p.again.kind = p.kind ∧ p.again.head = p.head ∧ p.again.detail = p.detail ∧
    p.again.count = min 255 (p.count + 1) := ⟨rfl, rfl, rfl, rfl⟩

/-- The pending list as R161 and R162 keep it: short, its keys distinct, its counts in range. -/
def Journal.listLawful (j : Journal) : Prop :=
  j.pending.length ≤ 12 ∧
  j.pending.Pairwise (fun p q => ¬(p.kind = q.kind ∧ p.head = q.head ∧ p.detail = q.detail)) ∧
  ∀ p ∈ j.pending, 1 ≤ p.count ∧ p.count ≤ 255

/-- Posting keeps the pending list lawful. -/
theorem Journal.post_listLawful (k : EventKind) (head detail : Byte) (j : Journal) (h : j.listLawful) :
    (j.post k head detail).listLawful := by
  obtain ⟨h1, h2, h3⟩ := h
  rcases j.post_cases k head detail with ⟨-, e⟩ | ⟨ha, hl, e⟩ | ⟨-, -, e⟩
  · refine ⟨?_, ?_, ?_⟩ <;> rw [e]
    · simpa using h1
    · show List.Pairwise _ (List.map _ _)
      rw [List.pairwise_map]
      refine h2.imp ?_
      intro p q hpq
      split <;> split <;> exact hpq
    · simp only [List.mem_map]
      rintro p ⟨q, hq, rfl⟩
      have := h3 q hq
      split
      · simp
      · exact this
  · refine ⟨?_, ?_, ?_⟩ <;> rw [e]
    · simp; omega
    · simp only [List.pairwise_append, List.pairwise_cons, List.mem_singleton]
      refine ⟨h2, by simp, ?_⟩
      rintro p hp q rfl ⟨a, b, c⟩
      simp only [List.any_eq_false] at ha
      exact ha p hp (by simp [PendingRecord.hasKey, a, b, c])
    · simp only [List.mem_append, List.mem_singleton]
      rintro p (hp | rfl)
      · exact h3 p hp
      · exact ⟨Nat.le_refl 1, by show 1 ≤ 255; omega⟩
  · refine ⟨?_, ?_, ?_⟩ <;> rw [e] <;> assumption

/-- `j'` comes from `j` by posting events, and by nothing else. -/
inductive Journal.Posts (j : Journal) : Journal → Prop where
  | none : Journal.Posts j j
  | more {j' : Journal} (k : EventKind) (head detail : Byte) (h : Journal.Posts j j') :
    Journal.Posts j (j'.post k head detail)

theorem Journal.Posts.trans {i j k : Journal} (h : i.Posts j) (h' : j.Posts k) : i.Posts k := by
  induction h' with
  | none => exact h
  | more k a b _ ih => exact .more k a b ih

theorem Journal.Posts.one (j : Journal) (k : EventKind) (head detail : Byte) : j.Posts (j.post k head detail) :=
  .more k head detail .none

/-- What posting keeps. -/
theorem Journal.Posts.keeps {j j' : Journal} (h : j.Posts j') :
    j'.slots = j.slots ∧ j'.nextWrite = j.nextWrite ∧ j'.lastSummary = j.lastSummary ∧
    (j.listLawful → j'.listLawful) := by
  induction h with
  | none => exact ⟨rfl, rfl, rfl, id⟩
  | more k a b _ ih =>
    refine ⟨by simp [ih.1], by simp [ih.2.1], by simp [ih.2.2.1], fun l => ?_⟩
    exact Journal.post_listLawful k a b _ (ih.2.2.2 l)

/-! ## The operations that only post -/

@[simp] theorem Channel.releaseIfQuiet_jnl (ch : Channel) : ch.releaseIfQuiet.jnl = ch.jnl := by simp

theorem Channel.reportLimit_posts (r : BurstRecord) (ch : Channel) : ch.jnl.Posts (ch.reportLimit r).jnl := by
  unfold Channel.reportLimit
  split
  · exact .one _ _ _ _
  · exact .none

theorem Channel.reportShortWarm_posts (now delay : Nat) (r : BurstRecord) (ch : Channel) :
    ch.jnl.Posts (ch.reportShortWarm now delay r).jnl := by
  unfold Channel.reportShortWarm
  split
  · exact .one _ _ _ _
  · exact .none

theorem Channel.enterFresh_posts (now : Nat) (p : PlanState) (r : BurstRecord) (ch : Channel) :
    ch.jnl.Posts (ch.enterFresh now p r).jnl := by
  simpa [Channel.enterFresh] using ch.reportLimit_posts r

theorem Channel.handOver_posts (now : Nat) (p : PlanState) (old r : BurstRecord) (ch : Channel) :
    ch.jnl.Posts (ch.handOver now p old r).jnl := by
  unfold Channel.handOver
  split
  · exact ch.enterFresh_posts now p r
  · simpa using Journal.Posts.none

theorem Channel.placeAfter_posts (now delay : Nat) (old : BurstRecord) (ch : Channel) :
    ch.jnl.Posts (ch.placeAfter now delay old).jnl := by
  unfold Channel.placeAfter
  split
  · simpa using Journal.Posts.none
  · split
    · exact ch.handOver_posts now _ old _
    · simpa using Journal.Posts.none

theorem Channel.reaim_posts (now delay : Nat) (ch : Channel) : ch.jnl.Posts (ch.reaim now delay).jnl := by
  unfold Channel.reaim
  split
  · simpa using Journal.Posts.none
  · split
    · split
      · simpa using Journal.Posts.none
      · exact (ch.reportShortWarm_posts now delay _).trans (Channel.enterFresh_posts now _ _ _)
    · simpa using Journal.Posts.none

theorem Channel.truncate_posts (now : Nat) (why : CutReason) (r : BurstRecord) (ch : Channel) :
    ch.jnl.Posts (ch.truncate now why r).jnl := by
  simpa [Channel.truncate] using Journal.Posts.one ch.jnl _ _ _

theorem Channel.truncateWriting_posts (now : Nat) (why : CutReason) (ch : Channel) :
    ch.jnl.Posts (ch.truncateWriting now why).jnl := by
  unfold Channel.truncateWriting
  split
  · split
    · exact ch.truncate_posts now why _
    · exact .none
  · exact .none

theorem Channel.refuseAll_posts (why : RefuseReason) (ch : Channel) : ch.jnl.Posts (ch.refuseAll why).jnl := by
  have key : ∀ (q : List BurstRecord) (j : Journal),
      j.Posts (q.foldl (fun j r => j.post .refused (headCode r.head) why.code) j) := by
    intro q
    induction q with
    | nil => exact fun _ => .none
    | cons r q ih => exact fun j => (Journal.Posts.one j _ _ _).trans (ih _)
  simpa [Channel.refuseAll] using key _ _

theorem Channel.shutDown_posts (now : Nat) (p : PlanState) (cut : CutReason) (why : RefuseReason) (ch : Channel) :
    ch.jnl.Posts (ch.shutDown now p cut why).jnl := by
  simpa [Channel.shutDown] using (ch.truncateWriting_posts now cut).trans (Channel.refuseAll_posts why _)

theorem Channel.enterHalted_posts (now : Nat) (ch : Channel) : ch.jnl.Posts (ch.enterHalted now).jnl := by
  unfold Channel.enterHalted
  split
  · exact .none
  · exact ch.shutDown_posts _ _ _ _

theorem Channel.enterFault_posts (now : Nat) (k : EventKind) (ch : Channel) :
    ch.jnl.Posts (ch.enterFault now k).jnl := by
  unfold Channel.enterFault
  split
  · exact .none
  · exact (Journal.Posts.one ch.jnl _ _ _).trans (Channel.shutDown_posts _ _ _ _ (ch.post k _ 0))

theorem Channel.drift_posts (ch : Channel) : ch.jnl.Posts ch.drift.jnl := by
  unfold Channel.drift
  split
  · split
    · exact ch.reportLimit_posts _
    · exact .none
  · exact .none

end Sys2Proof.Machine
end

