-- ==== Sys2Proof/Laws/Relay.lean ====
section
/-! SUPPORT. What the shared operations of the Relay can do: which frame completes, what its completion leaves, and what a
grant presupposes. -/

namespace Sys2Proof.Machine

/-- A predicate of one channel is kept by a change of one channel that keeps it. -/
theorem State.upd_keeps (P : Channel → Prop) (s : State) (c : Chan) (f : Channel → Channel)
    (h : ∀ d, P (s.ch d)) (hf : P (f (s.ch c))) : ∀ d, P ((s.upd c f).ch d) := by
  intro d
  rcases eq_or_eq_otherChan c d with rfl | rfl
  · simpa using hf
  · simpa using h (otherChan c)

@[simp] theorem State.running_iff (s : State) : s.running = true ↔ s.phase = .running := by
  simp [State.running]

/-- The frame that waits in the slot for a port is the slot's. -/
theorem waitingFrame_eq_some {c : Chan} {slot : Option SlotFrame} {k : FrameKind} :
    waitingFrame c slot = some k ↔ slot = some ⟨c, k⟩ := by
  unfold waitingFrame
  split
  · rename_i f
    obtain ⟨p, k'⟩ := f
    by_cases h : p = c
    · simp [h]
    · simp [h]
  · simp

/-- The relayed frame that completes now is the one in the slot, begun T_f before (R136). -/
theorem State.relayedDue_eq_some {c : Chan} {s : State} {page : Option Nibble} {k : FrameKind} :
    s.relayedDue c = some (page, k) ↔ s.phase = .running ∧ s.slot = some ⟨c, k⟩ ∧
      ∃ began, (s.ch c).port.job = some ⟨began, .relayed page⟩ ∧ began + s.loaded.frameTime ≤ s.now := by
  unfold State.relayedDue
  constructor
  · intro h
    split at h
    · rename_i began page' kind h1 h2
      split at h
      · rename_i h3
        simp only [Bool.and_eq_true, State.running_iff, decide_eq_true_eq] at h3
        simp only [Option.some.injEq, Prod.mk.injEq] at h
        obtain ⟨rfl, rfl⟩ := h
        exact ⟨h3.1, waitingFrame_eq_some.1 h2, began, h1, h3.2⟩
      · simp at h
    · simp at h
  · rintro ⟨hr, hs, began, hj, ht⟩
    rw [hj, waitingFrame_eq_some.2 hs]
    simp [hr, ht]

/-- The inserted frame that completes now is the one the port carries, begun T_f before (R136). -/
theorem State.insertedDue_eq_some {c : Chan} {s : State} {o : SeqOwner} {fs : List InsertedFrame} :
    s.insertedDue c = some (o, fs) ↔ s.phase = .running ∧
      ∃ began, (s.ch c).port.job = some ⟨began, .inserted o fs⟩ ∧ began + s.loaded.frameTime ≤ s.now := by
  unfold State.insertedDue
  constructor
  · intro h
    split at h
    · rename_i began o' fs' h1
      split at h
      · rename_i h3
        simp only [Bool.and_eq_true, State.running_iff, decide_eq_true_eq] at h3
        simp only [Option.some.injEq, Prod.mk.injEq] at h
        obtain ⟨rfl, rfl⟩ := h
        exact ⟨h3.1, began, h1, h3.2⟩
      · simp at h
    · simp at h
  · rintro ⟨hr, began, hj, ht⟩
    rw [hj]
    simp [hr, ht]

theorem State.relayedDue_of_writeCompletes {c : Chan} {page : Option Nibble} {addr : Addr} {data : Byte} {s : State}
    (h : s.writeCompletes c page addr data) : s.relayedDue c = some (page, .write addr data) :=
  State.relayedDue_eq_some.2 h

theorem State.insertedDue_of_insertedCompletes {c : Chan} {o : SeqOwner} {f : InsertedFrame}
    {rest : List InsertedFrame} {s : State} (h : s.insertedCompletes c o f rest) :
    s.insertedDue c = some (o, f :: rest) := State.insertedDue_eq_some.2 h

/-- A completed relayed frame leaves the slot empty, RDY high and the port free. -/
theorem State.completeRelayed_eq (c : Chan) (s : State) :
    s.completeRelayed c = { s.upd c Channel.freePort with slot := none, rdy := true } := by cases c <;> rfl

/-- All that the completion of a relayed write can do (R143). -/
theorem State.completeWrite_cases (c : Chan) (k : WriteKind) (e : Addr → Byte → Channel → Channel) (s : State) :
    s.completeWrite c k e = s ∨
    ∃ page addr data, s.writeCompletes c page addr data ∧ writeKind s.loaded.pageParam page addr data = k ∧
      s.completeWrite c k e = s.delivered c (e addr data) := by
  unfold State.completeWrite
  split
  · rename_i h
    split
    · refine .inr ⟨_, _, _, State.relayedDue_eq_some.1 h, by assumption, ?_⟩
      cases c <;> rfl
    · exact .inl rfl
  · exact .inl rfl

/-- The completion of a relayed write of the right kind (R143). -/
theorem State.completeWrite_of {c : Chan} {k : WriteKind} {e : Addr → Byte → Channel → Channel} {s : State}
    {page : Option Nibble} {addr : Addr} {data : Byte} (h : s.writeCompletes c page addr data)
    (hk : writeKind s.loaded.pageParam page addr data = k) :
    s.completeWrite c k e = s.delivered c (e addr data) := by
  unfold State.completeWrite
  rw [State.relayedDue_of_writeCompletes h]
  simp only [hk, if_true]
  cases c <;> rfl

/-- All that the completion of a relayed read can do (R134, R144). -/
theorem State.completeRead_cases (c : Chan) (k : ReadKind) (byte : Byte) (s : State) :
    s.completeRead c k byte = s ∨
    ∃ addr hold, s.readCompletes c addr hold ∧
      readMatches s.loaded (s.ch c).port.page addr hold k = true ∧
      s.completeRead c k byte =
        { s.delivered c (fun ch => if hold = .doubled then ch else ch.deliverRead s.loaded addr byte) with
          reception := receptionAfterRead c byte s.reception } := by
  unfold State.completeRead
  split
  · rename_i page addr hold h
    obtain ⟨hr, hs, began, hj, ht⟩ := State.relayedDue_eq_some.1 h
    split
    · refine .inr ⟨addr, hold, ⟨hr, hs, began, page, hj, ht⟩, by assumption, ?_⟩
      cases c <;> by_cases hh : hold = .doubled <;> simp [hh, State.completeRelayed, State.delivered, State.upd,
        State.emptySlot, Channel.freePort]
    · exact .inl rfl
  · exact .inl rfl

/-- The completion of a relayed read of the right row (R134, R144). -/
theorem State.completeRead_of {c : Chan} {k : ReadKind} {byte : Byte} {s : State} {addr : Addr} {hold : ReadHold}
    (h : s.readCompletes c addr hold) (hk : readMatches s.loaded (s.ch c).port.page addr hold k = true) :
    s.completeRead c k byte =
      { s.delivered c (fun ch => if hold = .doubled then ch else ch.deliverRead s.loaded addr byte) with
        reception := receptionAfterRead c byte s.reception } := by
  obtain ⟨hr, hs, began, page, hj, ht⟩ := h
  unfold State.completeRead
  rw [State.relayedDue_eq_some.2 ⟨hr, hs, began, hj, ht⟩]
  simp only [hk, if_true]
  cases c <;> by_cases hh : hold = .doubled <;> simp [hh, State.completeRelayed, State.delivered, State.upd,
    State.emptySlot, Channel.freePort]

/-- What a completion leaves, field by field. -/
@[simp] theorem State.delivered_fields (c : Chan) (f : Channel → Channel) (s : State) :
    (s.delivered c f).now = s.now ∧ (s.delivered c f).phase = s.phase ∧ (s.delivered c f).rstn = s.rstn ∧
    (s.delivered c f).optionBytes = s.optionBytes ∧ (s.delivered c f).loaded = s.loaded ∧
    (s.delivered c f).loadStatus = s.loadStatus ∧ (s.delivered c f).slot = none ∧
    (s.delivered c f).reception = s.reception ∧ (s.delivered c f).rdy = true ∧
    (s.delivered c f).orderCount = s.orderCount ∧ (s.delivered c f).pending = s.pending := by
  cases c <;> simp [State.delivered, State.upd]

@[simp] theorem State.delivered_ch (c : Chan) (f : Channel → Channel) (s : State) :
    (s.delivered c f).ch c = { f (s.ch c) with port := { (f (s.ch c)).port with job := none } } := by
  cases c <;> rfl

@[simp] theorem State.delivered_ch_other (c : Chan) (f : Channel → Channel) (s : State) :
    (s.delivered c f).ch (otherChan c) = s.ch (otherChan c) := by cases c <;> rfl

/-- What a grant presupposes: the part runs, the channel is not parked, the port is free (R136, R137). -/
theorem State.choice_eq_some {c : Chan} {s : State} {w : Work} (h : s.choice c = some w) :
    s.phase = .running ∧ (s.ch c).heads ≠ [] ∧ (s.ch c).port.job = none ∧
    (s.ch c).arbiterChoice c s.slot = some w := by
  unfold State.choice at h
  split at h
  · rename_i hr
    refine ⟨by simpa using hr, ?_, ?_, h⟩ <;> unfold Channel.arbiterChoice at h <;> split at h
    · simp at h
    · rename_i hn
      intro hh
      exact hn (.inl (by simp [Channel.parked, hh]))
    · simp at h
    · rename_i hn
      cases hj : (s.ch c).port.job with
      | none => rfl
      | some j => exact absurd (.inr (by simp [hj])) hn
  · simp at h

/-! ## The page shadow at the end of a sequence (R140, R141) -/

@[simp] theorem pageAfter_append (page : Option Nibble) (xs ys : List InsertedFrame) :
    pageAfter page (xs ++ ys) = pageAfter (pageAfter page xs) ys := by
  induction xs generalizing page with
  | nil => rfl
  | cons f xs ih => cases f <;> simp [pageAfter, ih]

theorem Port.pageAtEnd_free {p : Port} (h : p.job = none) : p.pageAtEnd = p.page := by
  simp [Port.pageAtEnd, h]

theorem Port.pageAtEnd_relayed {p : Port} {began : Nat} {page : Option Nibble}
    (h : p.job = some ⟨began, .relayed page⟩) : p.pageAtEnd = p.page := by
  simp [Port.pageAtEnd, h]

theorem Port.pageAtEnd_inserted {p : Port} {began : Nat} {o : SeqOwner} {fs : List InsertedFrame}
    (h : p.job = some ⟨began, .inserted o fs⟩) : p.pageAtEnd = pageAfter p.page fs := by
  simp [Port.pageAtEnd, h]

/-- A sequence built from a known page shadow leaves it, when its content selects no page (R140). -/
theorem pageAfter_buildSequence (p page : Nibble) {content : List InsertedFrame}
    (h : ∀ q, pageAfter q content = q) : pageAfter (some p) (buildSequence (some p) page content) = some p := by
  simp only [buildSequence]
  split
  · exact h _
  · simp [pageAfter]

/-- What is held for a channel, wherever its port stands: a frame for it in the slot that is protected against
the page shadow at the end of the port's sequence (R141; log 17). -/
theorem Channel.holdsProtected_iff {c : Chan} {slot : Option SlotFrame} {ch : Channel} :
    ch.holdsProtected c slot = true ↔
      ∃ k, slot = some ⟨c, k⟩ ∧ protectedFrame ch.port.pageAtEnd k = true := by
  cases h : waitingFrame c slot with
  | none =>
    simp only [Channel.holdsProtected, h, Option.any_none, Bool.false_eq_true, false_iff, not_exists, not_and]
    intro k hk
    rw [waitingFrame_eq_some.2 hk] at h
    cases h
  | some k =>
    have hk := waitingFrame_eq_some.1 h
    subst hk
    simp [Channel.holdsProtected, h]

/-- What the arbiter's choice says of each kind of work (R137, R142, R151, R164). -/
theorem Channel.arbiterChoice_cases {c : Chan} {slot : Option SlotFrame} {ch : Channel} {w : Work}
    (h : ch.arbiterChoice c slot = some w) :
    match w with
    | .relayed => ch.port.learning = .complete ∧ (∃ k, slot = some ⟨c, k⟩) ∧
        (ch.holdsProtected c slot = true → ch.active = false)
    | .learning => ch.port.learning = .queued
    | .upkeep => ch.port.learning = .complete ∧ ch.upkeepNeed = true ∧ ch.upkeepRunning = false ∧ ch.active = false
    | .record => ch.port.learning = .complete ∧ ch.jnl.pending ≠ [] ∧ ch.jnl.nextSlot = .free
    | .summary => ch.port.learning = .complete ∧ ch.recordWork = false ∧ ch.summaryWork = true := by
  unfold Channel.arbiterChoice at h
  split at h
  · simp at h
  split at h
  · rename_i hr
    cases h
    simp only [Channel.relayEligible, Bool.and_eq_true, Option.isSome_iff_exists, beq_iff_eq, Bool.not_eq_true',
      Bool.and_eq_false_iff] at hr
    obtain ⟨⟨⟨k, hk⟩, hl⟩, hp⟩ := hr
    refine ⟨hl, ⟨k, waitingFrame_eq_some.1 hk⟩, fun hp' => ?_⟩
    rcases hp with hp | hp
    · rw [hp] at hp'; cases hp'
    · exact hp
  split at h
  · cases h; assumption
  split at h
  · simp at h
  rename_i hl
  have hl : ch.port.learning = .complete := by simpa using hl
  split at h
  · rename_i hu
    cases h
    simp only [Channel.upkeepRequest, Bool.and_eq_true, Bool.not_eq_true'] at hu
    exact ⟨hl, hu.1.1, hu.1.2, by simpa using hu.2⟩
  split at h
  · rename_i hr
    cases h
    simp only [Channel.recordWork, Bool.and_eq_true, Bool.not_eq_true', List.isEmpty_eq_false_iff, beq_iff_eq] at hr
    exact ⟨hl, hr.1, hr.2⟩
  split at h
  · rename_i hr hs
    cases h
    exact ⟨hl, by simpa using hr, hs⟩
  · simp at h

end Sys2Proof.Machine
end

