-- ==== Sys2Proof/Tests/Slice0.lean ====
section
/-! SUPPORT. Tests on small states, one step each, with values worked out in the spec; and for every statement with
hypotheses a concrete state and operands that meet them (the theorems named witness_<statement>). -/

open Sys2Proof Sys2Proof.Machine

namespace Sys2Proof.Tests

/-! ## Helpers -/

/-- The state a command leaves. -/
def after (i : Instr) (s : State) : State :=
  match exec i s with
  | .next t => t
  | .fault _ => s
  | .refused _ => s

/-- The head entry of the worked example of Lead and Trim: L0 120, Lmin 24, tail 40, u 8, s 16, H_ref 20300, and the
bases 40, 120, 150 of band 0. -/
def entry : HeadEntry :=
  { bases := [some 40, some 120, some 150] ++ List.replicate 21 none
    l0 := some 120, lmin := some 24, tail := some 40, u := some 8, s := some 16
    href := some 20300, g := some 120, d := some 3 }

/-- That head at the heat of the reference case. -/
def head : Head := { cal := entry, heat := 26000 }

/-- A channel at rest on head 1, its learning complete, its level registers written and its summary up to date. -/
def resting : Channel :=
  { plan := .rest, lvl := .bias, heads := List.replicate 4 head
    nextTick := 1280, tickPeriod := 256
    port := { page := some 12, headSel := some 1, learning := .complete }
    image := ⟨some 40, some 120, some 150⟩
    jnl := { lastSummary := some 0 } }

/-- The part at an instant, channel A as given and channel B at rest. -/
def part (now : Nat) (ch : Channel) : State := { State.reset with now := now, chA := ch, chB := resting }

/-- An accepted record of head 1 that rose at 1000 with the lead of the reference case. -/
def burst : BurstRecord :=
  { head := some 1, band := 0, rise := 1000, outcome := .accepted, lead := some 75, ceiling := some 31 }

/-- A second one that rose at 1150, its warm start at 1235. -/
def second : BurstRecord := { burst with rise := 1150 }

/-- Channel A serving records in a plan state, with the reservation of one burst. -/
def serving (p : PlanState) (l : Level) (q : List BurstRecord) : Channel :=
  { resting with
    plan := p, lvl := l, queue := q, uwg := true, res := 181
    dwg := l == .write
    mon := if l.heated then { due := some 1250 } else {} }

/-- That channel once both raw gates have held for 2 quanta at the levels that the filters have not taken. -/
def ripe (ch : Channel) : Channel := { ch with uwgHeld := 2, sgHeld := 2 }

/-- The part with a frame on channel A's port, complete at 2000, and the frame in the slot. -/
def relaying (k : FrameKind) (ch : Channel) : State :=
  { part 2000 { ch with nextTick := 2048, port := { ch.port with job := some ⟨1920, .relayed ch.port.page⟩ } } with
    slot := some ⟨.a, k⟩, rdy := false }

/-- The part with an inserted sequence on channel A's port, its current frame complete at 2000. -/
def inserting (o : SeqOwner) (fs : List InsertedFrame) (ch : Channel) : State :=
  part 2000 { ch with nextTick := 2048, port := { ch.port with job := some ⟨1920, .inserted o fs⟩ } }

/-! ## Well-formed commands: each check refuses an ill-formed one -/

theorem test_wf_frameStart_needs_a_select : (Instr.upstreamFrameStart true true).wf = false := by decide
theorem test_wf_writeEnd_is_not_a_read : (Instr.upstreamWriteEnd [true]).wf = false := by decide
theorem test_wf_readAddress_has_eight_bits : (Instr.upstreamReadAddress [true, false]).wf = false := by decide
theorem test_wf_readAddress_is_a_read :
    (Instr.upstreamReadAddress (List.replicate 8 false)).wf = false := by decide
theorem test_wf_accepts : (Instr.upstreamReadAddress (true :: List.replicate 7 false)).wf = true := by decide

/-- The table gives no row any bits. -/
theorem test_no_word_spells_a_command : decodeTableWord 16 0xFFFF = none := rfl

/-! ## Frames -/

/-- A write of 0xC1 to 0x4B, written out bit by bit (R131). -/
theorem test_frame_bits : frameBits false 0x4B 0xC1 =
    [false, true, false, false, true, false, true, true, true, true, false, false, false, false, false, true] := by
  decide

/-- A read of 0x30, its first eight bits (R131). -/
theorem test_frame_address : frameAddr [true, false, true, true, false, false, false, false] = 0x30 := by decide

/-! ## The step, the resets -/

theorem witness_IdleStepPassesOneQuantum :
    (part 1100 resting).pending = [] ∧ (part 1100 resting).dueEvents = [] ∧ (part 1100 resting).phase = .running ∧
    ({ part 1100 resting with phase := .lineReset }).dueEvents = [] := by decide

theorem witness_IdleStepTakesADueEvent : State.reset.pending = [] ∧ State.reset.dueEvents ≠ [] := by decide

/-- At 1085, write start less 75, the warm start of the reference case is due, and not a quantum before (R5). -/
theorem witness_DueEventsOfAChannel :
    (part 1085 (serving .lead .bias [burst])).phase = .running ∧
    .warmStart .a 1000 ∈ (part 1085 (serving .lead .bias [burst])).dueEvents ∧
    .warmStart .a 1000 ∉ (part 1084 (serving .lead .bias [burst])).dueEvents := by decide

/-- The tail end of a record being faded, the rise that a mark left by a reset discards, no rise after one quantum, the
other filtered changes, the completion of a head field write, the grant of an upkeep sequence. -/
theorem witness_DueEventsOfAChannel_others :
    .tailEnd .a 1000 ∈ (part 1300 { resting with
      plan := .fade, queue := [{ burst with fall := some 1100, tailEnd := some 1300 }] }).dueEvents ∧
    .upstreamRise .a ∈ (part 1100 (ripe { resting with disregard := true })).dueEvents ∧
    .upstreamRise .a ∉ (part 1100 { resting with uwgHeld := 1 }).dueEvents ∧
    .upstreamFall .a ∈ (part 1001 (ripe (serving .lead .bias [burst]))).dueEvents ∧
    .servoRise .a ∈ (part 1100 (ripe resting)).dueEvents ∧
    .servoFall .a ∈ (part 1100 (ripe { resting with sg := true })).dueEvents ∧
    .headFieldWrite .a ∈ (relaying (.write 0x1A 30) resting).dueEvents ∧
    .upkeepSequenceGrant .a ∈ (part 1100 { resting with image := {} }).dueEvents := by decide

theorem witness_NothingHappensInReset :
    (Instr.upstreamRise .a).channel = some .a ∧ { part 1100 resting with phase := .lineReset }.phase ≠ .running := by
  decide

theorem witness_ChannelsMeetOnlyInHeadroom :
    (Instr.upstreamRise .a).channel = some .a ∧
    ({ resting with wu := true } : Channel).res = ((part 1100 resting).ch .b).res ∧
    exec (.upstreamRise .a) (part 1100 (ripe resting)) =
      .next (after (.upstreamRise .a) (part 1100 (ripe resting))) :=
  ⟨rfl, rfl, rfl⟩

theorem witness_OnlyTicksAndResetsMoveTheHeat :
    exec (.upstreamRise .a) (part 1100 (ripe resting)) =
      .next (after (.upstreamRise .a) (part 1100 (ripe resting))) ∧
    (Instr.upstreamRise .a).isReset = false ∧ Instr.upstreamRise .a ≠ .heatTick .a ∧
    ∀ byte, Instr.upstreamRise .a ≠ .temperatureRead .a byte ∧ Instr.upstreamRise .a ≠ .journalSlotRead .a byte ∧
      Instr.upstreamRise .a ≠ .summaryRead .a byte := ⟨rfl, rfl, by decide, fun _ => by simp⟩

/-- The write start at 1000 + 160. -/
theorem witness_WriteGateRisesOnlyAtAWriteStart :
    exec (.writeStart .a 1000) (part 1160 (serving .warm .warm [burst])) =
      .next (after (.writeStart .a 1000) (part 1160 (serving .warm .warm [burst]))) ∧
    ((part 1160 (serving .warm .warm [burst])).ch .a).dwg = false ∧
    ((after (.writeStart .a 1000) (part 1160 (serving .warm .warm [burst]))).ch .a).dwg = true :=
  ⟨rfl, rfl, by decide⟩

theorem witness_DelayLineDelaysByDPlusTwo : State.reset.phase = .running ∧ State.reset.delay .a = 160 := by decide

theorem witness_ResetsHoldEveryBlock :
    State.reset.phase = .running ∧ { State.reset with phase := .lineReset }.phase ≠ .running := by decide

/-- The four clauses: a load done with RSTn high and with it low, a line reset, a load that waits for RSTn. -/
theorem witness_ResetsEndTogether :
    ({ State.reset with phase := .loading 32 }).phase = .loading 32 ∧ 32 ≤ State.reset.now ∧
    ({ State.reset with phase := .loading 32, rstn := false }).rstn = false ∧
    ({ State.reset with phase := .lineReset }).phase = .lineReset ∧
    ({ State.reset with phase := .loadDone }).phase = .loadDone ∧ State.reset.phase = .running := by decide

/-- In a reset only the count of quanta moves. -/
theorem test_quanta_pass_in_reset (k : Nat) (s : State) (h : s.phase ≠ .running) :
    State.passQuantum^[k] s = { s with now := s.now + k } := by
  induction k generalizing s with
  | zero => rfl
  | succ k ih =>
    have h1 : s.passQuantum = { s with now := s.now + 1 } := by simp [State.passQuantum, State.running, h]
    rw [Function.iterate_succ_apply, h1, ih { s with now := s.now + 1 } h]
    simp [Nat.add_assoc, Nat.add_comm 1 k]

/-- The model's choice of reset: the end of a power-on at quantum 0 with a blank memory (log 7). -/
theorem test_reset_is_the_end_of_a_power_on :
    after (.optionLoadComplete false false)
      (State.passQuantum^[32] (after .powerOn { State.reset with now := 0 })) = State.reset := by
  rw [test_quanta_pass_in_reset _ _ (by decide)]
  decide

/-- The clamped start-up of the spec's option memory chapter: 14 heads to 12, none, D bytes 15 and 210 to 20 and 200,
B 400, pages 13 and 13 to 12 and 13, temperature at 0x30 of page 0, link rate code 5 to 160 (R173). -/
theorem test_options_clamp : loadOptions [14, 0, 15, 210, 100, 0xDD, 0xB0, 0x50] =
    { headsA := 12, headsB := 0, delayA := 40, delayB := 400, budget := 400, pageParam := 12, pageJournal := 13,
      tempAddr := 0x30, tempPage := 0, frameTime := 160 } := by decide

/-- Boundary values of each clause: 12 and 13 heads, D bytes 20 and 200, pages 2 and 3, codes 3 and 4. -/
theorem witness_OptionBytesDecodeAndClamp :
    ¬((0xFF : Byte) = 0xFF ∧ (12 : Byte) = 0xFF) ∧
    loadStatusOf [12, 12, 20, 200, 0, 0x23, 0, 0x30] = .loaded ∧
    loadStatusOf [12, 13, 20, 200, 0, 0x23, 0, 0x30] = .clamped ∧
    loadStatusOf [12, 12, 20, 200, 0, 0x23, 0, 0x40] = .clamped := by decide

theorem witness_BlankMemoryTakesTheDefaults : (List.replicate 6 (0 : Byte)).length = 6 := rfl

/-! ## Posting, the monitor, entries -/

/-- Twelve pending records with different details. -/
def fullPending : List PendingRecord :=
  (List.range 12).map fun n => ⟨.refused, 1, BitVec.ofNat 8 n, if n = 0 then 255 else 1⟩

/-- A key that is pending at its count's end, a new key with room, and a new key without. -/
theorem witness_PostingAnEvent :
    (∃ p ∈ fullPending, p.kind = .refused ∧ p.head = 1 ∧ p.detail = 0) ∧
    (∀ p ∈ fullPending, ¬(p.kind = .refused ∧ p.head = 1 ∧ p.detail = 12)) ∧
    (fullPending.drop 1).length < 12 ∧ 12 ≤ fullPending.length := by decide

theorem test_count_stays_at_255 :
    (Journal.post .refused 1 0 { pending := fullPending }).pending.head?.map (·.count) = some 255 := by decide

theorem witness_MonitorFollowsTheLevel :
    Level.off ∈ [Level.off, .bias] ∧ Level.warm ∈ [Level.warm, .write] ∧ Level.warm ≠ .write := by decide

theorem witness_EntryIntoWarmAndWrite : ∀ k, burst.ceiling = some k → -32 ≤ k := by decide

/-- The reference case: heat 26000 against 20300 gives the trim −22 and the lead 75. -/
theorem test_reference_trim :
    (Channel.enterFresh 1085 .warm burst (serving .lead .bias [burst])).heldTrim = -22 := by decide
theorem test_reference_lead : resting.leadFor 160 (some 1) = 75 := by decide

/-- The reference case, ambient 70 against 64 with k_a 50: 20000 + 300 (R70); a sum below 0 and one above 65535. -/
theorem witness_EffectiveReferenceOfAHead :
    let ref := fun (a k : Byte) (href : BitVec 16) => Channel.effectiveReference (some 1)
      { resting with
        ambient := a, ambientSet := true, set := { ka := k }
        heads := List.replicate 4 { head with cal := { entry with href := some href } } }
    ref 70 50 20000 = 20300 ∧ ref 0 127 100 = 0 ∧ ref 255 127 65000 = 65535 ∧
      resting.ambientSet = false := by decide

theorem witness_EntryIntoFaultAndHalted : PlanState.fault = .fault ∨ PlanState.fault = .halted := by decide

/-! ## The Write Path -/

/-- Four records in the queue. -/
def fullQueue : List BurstRecord :=
  [1000, 1010, 1020, 1030].map fun n => { burst with rise := n, fall := some (n + 5) }

theorem witness_RiseRefusedQueueFull :
    (part 1100 { resting with queue := fullQueue }).phase = .running ∧ (ripe resting).uwg = false ∧
    2 ≤ (ripe resting).uwgHeld ∧ resting.disregard = false ∧ 4 ≤ fullQueue.length := by decide

/-- With 283 booked by channel B, 117 is left of 400: the ceiling for a maxbase of 150 is −33, and test 8 refuses it. -/
theorem witness_RiseRefusedByATest :
    let s := { part 1100 resting with chB := { resting with res := 283 } }
    s.phase = .running ∧ resting.uwg = false ∧ 2 ≤ (ripe resting).uwgHeld ∧ resting.disregard = false ∧
    resting.firstTest (resting.holdsProtected .a s.slot) ((s.loaded.budget : Int) - (s.ch (otherChan .a)).res) =
      some .budget ∧
    ({ resting with plan := .fault } : Channel).firstTest false 400 = some .faulted := by decide

/-- With 282 booked by channel B the ceiling is −32, and the rise passes (R91). -/
theorem witness_RiseAccepted :
    resting.firstTest (resting.holdsProtected .a none) (400 - 282) = none ∧
    ((after (.upstreamRise .a) (part 1100 (ripe resting))).ch .a).plan = .lead ∧
    ((after (.upstreamRise .a) (part 1100 (ripe { resting with sg := true }))).ch .a).plan = .wedge := by decide

theorem test_rise_ceiling_at_the_bound :
    ((after (.upstreamRise .a)
      { part 1100 (ripe resting) with chB := { resting with res := 282 } }).ch .a).queue.map (·.ceiling) =
      [some (-32)] := by decide

/-- A rise, a fall, and a raw return before the filter's 2 quanta. -/
theorem witness_DisregardMark :
    2 ≤ (ripe { resting with disregard := true, uwg := true }).uwgHeld ∧
    ({ resting with disregard := true, uwgHeld := 1 } : Channel).uwgHeld < 2 ∧ resting.uwg = false := by decide

/-- A raw high of 1 quantum leaves nothing held; the second quantum in a row makes the 2 (R1). -/
theorem test_filter_holds_two_quanta :
    heldAfter false true (heldAfter false true 0) = 2 ∧ heldAfter false false (heldAfter false true 0) = 0 := by decide

/-- A raw return low clears the mark left by a reset, and a raw high after it is counted from 0 (R2). -/
theorem test_raw_return_low :
    let t := (after (.rawGateReturnLow .a) (part 33 { resting with disregard := true, uwgHeld := 1 })).ch .a
    t.disregard = false ∧ t.uwgHeld = 0 ∧ t.uwg = false := by decide

theorem witness_FallOfTheNewestRecord :
    (serving .lead .bias [burst]).queue = [] ++ [burst] ∧ burst.fall = none ∧
    (serving .lead .bias [burst]).uwg = true ∧ 2 ≤ (ripe (serving .lead .bias [burst])).uwgHeld ∧
    (serving .lead .bias [burst]).uwgHeld < 2 := by decide

/-- A stalled record, served alone, served behind an older one, and truncated. -/
theorem witness_StallCutOfTheNewestRecord :
    let r := { burst with stall := some 0 }
    (serving .lead .bias [r]).uwg = true ∧ r.served = true ∧ r.fall = none ∧
    (serving .lead .bias [r]).plan ∈ [.lead, .warm, .write] ∧
    (∀ x ∈ [{ burst with rise := 900, fall := some 950 }], x.stall ≠ some 0 ∧ x.rise ≠ r.rise) ∧
    ({ r with outcome := .truncated .servo 990 } : BurstRecord).served = false ∧
    (serving .wedge .off [r]).plan = .wedge := by decide

/-! ## The Laser Planner -/

theorem witness_ServoRise :
    (serving .write .write [burst]).sg = false ∧ 2 ≤ (ripe (serving .write .write [burst])).sgHeld ∧
    (serving .write .write [burst]).front = some burst ∧ (serving .fade .warm [burst]).front = some burst ∧
    (serving .write .write [burst]).sgHeld < 2 := by decide

/-- A servo rise during a write truncates it SERVO, detail 1 (R40, R175). -/
theorem test_servo_rise_in_write :
    let t := (after (.servoRise .a) (part 1200 (ripe (serving .write .write [burst])))).ch .a
    t.plan = .wedge ∧ t.lvl = .bias ∧ t.dwg = false ∧ t.wu = true ∧ t.res = 0 ∧
      t.jnl.pending = [⟨.truncated, 1, 1, 1⟩] := by decide

theorem witness_ServoFall :
    let ch := ripe { serving .wedge .off [burst] with sg := true }
    ch.sg = true ∧ 2 ≤ ch.sgHeld ∧ ch.plan = .wedge ∧ ch.front = some burst ∧ burst.lead = some 75 ∧
    1084 < burst.rise + 160 - 75 ∧ burst.rise + 160 - 75 ≤ 1085 ∧
    ({ serving .wedge .off [] with sg := true } : Channel).front = none := by decide

/-- A re-aim with 20 quanta left, less than Lmin 24, posts SHORT_WARM first (R43). -/
theorem test_short_warm :
    ((after (.servoFall .a) (part 1140 (ripe { serving .wedge .off [burst] with sg := true }))).ch .a).jnl.pending =
      [⟨.shortWarm, 1, 0, 1⟩] := by decide

/-- A record being faded, its fall at 1100, and the next one. -/
def faded : BurstRecord :=
  { burst with fall := some 1100, warmTaken := true, startTaken := true, endTaken := true, tailEnd := some 1300 }

theorem witness_WarmStartOfARecord :
    (serving .lead .bias [burst]).recordAt burst.rise = some burst ∧ burst.lead = some 75 ∧
    burst.warmTaken = false ∧ burst.rise + 160 - 75 ≤ 1085 ∧ burst.served = true ∧
    (serving .lead .bias [burst]).front = some burst ∧
    (serving .fade .warm [faded, second]).front = some faded ∧
    (serving .fade .warm [faded, second]).nextUp = some second ∧
    (serving .fade .warm [faded, second]).recordAt second.rise = some second ∧ faded.rise ≠ second.rise := by decide

/-- A later record in LEAD, one that is not the next in FADE, and a refused one. -/
theorem witness_WarmStartOfARecord_noChange :
    let lead := serving .lead .bias [{ burst with fall := some 1100 }, second]
    let fade := serving .fade .warm [faded, { second with fall := some 1180 }, { second with rise := 1200 }]
    let gone := { second with outcome := .refused .held }
    lead.recordAt second.rise = some second ∧ lead.front.map (·.rise) ≠ some second.rise ∧
    fade.recordAt 1200 = some { second with rise := 1200 } ∧ fade.nextUp.map (·.rise) ≠ some 1200 ∧
    1200 + 160 - 75 ≤ 1285 ∧ (serving .warm .warm [burst, gone]).recordAt gone.rise = some gone ∧
    gone.served = false := by decide

theorem test_hand_over_keeps_the_trim :
    let s := part 1260 { serving .fade .warm [faded, second] with heldTrim := -18 }
    let t := (after (.warmStart .a 1150) s).ch .a
    t.plan = .warm ∧ t.lvl = .warm ∧ t.heldTrim = -18 ∧ t.queue.length = 1 := by decide

theorem witness_WriteStartOfARecord :
    (serving .warm .warm [burst]).recordAt burst.rise = some burst ∧ burst.startTaken = false ∧
    burst.rise + 160 ≤ 1160 ∧ burst.served = true ∧ (serving .warm .warm [burst]).sg = false ∧
    (serving .warm .warm [burst]).front = some burst := by decide

/-- The same from LEAD, with the servo gate high, for a refused record, and from FADE for an older one. -/
theorem witness_WriteStartOfARecord_others :
    let next := serving .fade .warm [faded, second]
    let gone := { burst with outcome := .refused .held }
    (serving .lead .bias [burst]).recordAt burst.rise = some burst ∧
    (serving .lead .bias [burst]).front = some burst ∧
    ({ serving .wedge .off [burst] with sg := true } : Channel).recordAt burst.rise = some burst ∧
    (serving .lead .bias [gone]).recordAt gone.rise = some gone ∧ gone.served = false ∧
    next.recordAt second.rise = some second ∧ second.startTaken = false ∧ second.rise + 160 ≤ 1310 ∧
    next.front = some faded ∧ next.nextUp = some second ∧ faded.rise ≠ second.rise ∧
    (1159 : Nat) < burst.rise + 160 := by decide

/-- A record whose upstream fall was at 1100, being written. -/
def written : BurstRecord := { burst with fall := some 1100, warmTaken := true, startTaken := true }

theorem witness_WriteEndOfARecord :
    (serving .write .write [written, second]).recordAt written.rise = some written ∧
    written.fall = some 1100 ∧ written.endTaken = false ∧ 1100 + 160 ≤ 1260 ∧ written.served = true ∧
    (serving .write .write [written, second]).front = some written ∧
    ((serving .write .write [written, second]).queue.map (·.rise)).Nodup ∧
    (serving .write .write [written, second]).nextUp = some second ∧ second.lead = some 75 ∧
    second.rise + 160 - 75 ≤ 1260 ∧ (serving .write .write [written]).nextUp = none := by decide

/-- With a tail of 40 and no next record the plan fades to 1260 + 40 (R37). -/
theorem test_write_end_fades :
    let t := (after (.writeEnd .a 1000) (part 1260 (serving .write .write [written]))).ch .a
    t.plan = .fade ∧ t.lvl = .warm ∧ t.dwg = false ∧ t.queue.map (·.tailEnd) = [some 1300] := by decide

theorem witness_TailEndOfARecord :
    (serving .fade .warm [faded]).recordAt faded.rise = some faded ∧ faded.tailEnd = some 1300 ∧
    (serving .fade .warm [faded]).plan = .fade ∧ (serving .fade .warm [faded]).front = some faded ∧
    ((serving .fade .warm [faded, second]).queue.map (·.rise)).Nodup ∧
    (serving .fade .warm [faded]).nextUp = none ∧
    (serving .fade .warm [faded, second]).nextUp = some second := by decide

theorem test_tail_end_rests :
    let t := (after (.tailEnd .a 1000) (part 1300 (serving .fade .warm [faded]))).ch .a
    t.plan = .rest ∧ t.lvl = .bias ∧ t.queue = [] ∧ t.res = 0 := by decide

theorem witness_WarmAndWriteStartCommute :
    let r := { burst with lead := some 0 }
    ((serving .lead .bias [r]).queue.map (·.rise)).Nodup ∧ (serving .lead .bias [r]).recordAt r.rise = some r ∧
    r.served = true ∧ r.warmTaken = false ∧ r.startTaken = false ∧ r.rise + 160 ≤ 1160 ∧
    (serving .lead .bias [r]).plan = .lead ∧ (serving .lead .bias [r]).front = some r := by decide

/-- The same record keeps the law of the plan. -/
theorem witness_planLaw (r : BurstRecord) (h : r = burst ∨ r = { burst with lead := some 0 }) :
    (serving .lead .bias [r]).PlanLaw := by
  rcases h with rfl | rfl
  all_goals
    constructor
    case served => exact fun _ => ⟨_, rfl, rfl, fun h => absurd rfl h⟩
    case faded => intro h; cases h
    all_goals decide

/-- A next record of lead 0 behind one being faded. -/
theorem witness_WarmAndWriteStartCommute_fade :
    let r := { second with lead := some 0 }
    let ch := serving .fade .warm [faded, r]
    ((ch.queue.map (·.rise)).Nodup ∧ ch.recordAt r.rise = some r ∧ r.served = true ∧ r.warmTaken = false ∧
      r.startTaken = false ∧ r.rise + 160 ≤ 1310 ∧ ch.plan = .fade ∧ ch.nextUp = some r) ∧ ch.PlanLaw := by
  refine ⟨by decide, ?_⟩
  constructor
  case served => exact fun _ => ⟨faded, rfl, rfl, fun _ => by decide⟩
  case faded => intro _ r h; cases h; rfl
  all_goals decide

theorem witness_NextWarmStartCommutesWithTheEnd :
    ((serving .write .write [written, second]).queue.map (·.rise)).Nodup ∧
    (serving .write .write [written, second]).front = some written ∧
    (serving .write .write [written, second]).nextUp = some second ∧ second.lead = some 75 ∧
    second.warmTaken = false ∧ second.rise + 160 - 75 ≤ 1300 ∧ written.fall = some 1100 ∧
    written.endTaken = false ∧ 1100 + 160 ≤ 1300 ∧ (serving .fade .warm [faded, second]).front = some faded ∧
    faded.tailEnd = some 1300 := by decide

/-! ## Heat, trim and the monitor -/

/-- Ticks due and not due, in WRITE and at rest. -/
theorem witness_HeatTick :
    resting.nextTick ≤ 1280 ∧ (1279 : Nat) < resting.nextTick ∧ resting.plan ∉ [.warm, .write] ∧
    (serving .write .write [burst]).plan ∈ [.warm, .write] := by decide

/-- The worked tick of the heat chapter: head 1 from 1000 to 1039, and to 1049 with w_write 200; head 0 from 50 to 49
(R65, R66). -/
theorem test_tick_figures :
    let h : Head := { cal := { g := some 120, d := some 3 }, heat := 1000, tally := ⟨56, 73, 127⟩ }
    (h.tick {}).heat = 1039 ∧ (h.tick { wWrite := 200 }).heat = 1049 ∧
    (({ cal := { g := some 200, d := some 3 }, heat := 50 } : Head).tick {}).heat = 49 := by decide

/-- The head of the slewing example at 1792: heat 26060, effective reference 22300. -/
def slewing : Channel :=
  { serving .write .write [burst] with
    heldTrim := -22
    heads := List.replicate 4 { cal := { entry with href := some 22300 }, heat := 26060 } }

theorem witness_DriftUpdate :
    slewing.plan ∈ [.warm, .write] ∧ slewing.front = some burst ∧ (∀ k, burst.ceiling = some k → -32 ≤ k) ∧
    slewing.heldTrim ≤ min 31 (burst.ceiling.getD 31) ∧ -32 ≤ slewing.heldTrim := by decide

theorem test_drift_slews_by_four : slewing.drift.heldTrim = -18 := by decide

theorem witness_IdleHeadsCool :
    0 < head.heat ∧ 0 < byteValue head.cal.d ∧ 0 * byteValue head.cal.g / 65536 = 0 ∧ head.heat ≤ 26000 := by decide

/-- A settle sample, counted ones that do and do not declare, and one not due (R104 to R107). -/
theorem witness_MonitorSample :
    let ch := { serving .write .write [burst] with mon := { due := some 1405, since := 3, low := 3, high := 1 } }
    ch.mon.due = some 1405 ∧ ch.set.settle ≤ ch.mon.since ∧ ch.set.nLoss ≤ ch.mon.low + 1 ∧ 2 ≤ ch.mon.high + 1 ∧
    ch.plan.serving = true ∧ ({ ch.mon with since := 0 } : Monitor).since < ch.set.settle ∧
    ({ ch.mon with low := 2, high := 0 } : Monitor).low + 1 < ch.set.nLoss ∧ (1404 : Nat) < 1405 := by decide

/-- The light loss of the worked example: the fourth LOW enters FAULT, LIGHT_LOSS before TRUNCATED. -/
theorem test_light_loss :
    let s := part 1469 { serving .write .write [burst] with mon := { due := some 1469, since := 3, low := 3 } }
    let t := (after (.monitorSample .a 0) s).ch .a
    t.plan = .fault ∧ t.lvl = .off ∧ t.wu = true ∧ t.mon.due = none ∧
      t.jnl.pending = [⟨.lightLoss, 1, 0, 1⟩, ⟨.truncated, 1, 3, 1⟩] := by decide

theorem witness_EnergisedHead :
    (serving .warm .warm [burst]).lvl ≠ .off ∧ (serving .warm .warm [burst]).plan ∈ [.warm, .write, .fade] ∧
    resting.lvl = .bias ∧ resting.plan ∈ [.lead, .rest, .wedge] ∧
    ({ resting with lvl := .off } : Channel).lvl = .off := by decide

theorem witness_DrivenLines :
    -32 ≤ slewing.heldTrim ∧ slewing.heldTrim ≤ 31 ∧
    { part 1100 resting with reception := .delivering .a 5 }.reception = .delivering .a 5 := by decide

theorem witness_SummaryByte : resting.jnl.slots.length = 8 := rfl

/-- Eight occupied slots, WU high, FAULT: bits 3, 5 and 6 (R176). -/
theorem test_summary_byte :
    ({ resting with plan := .fault, wu := true, jnl := { slots := List.replicate 8 .occupied } } : Channel).summary =
      0x68 := by decide

/-! ## Relayed frames -/

/-- The loaded copy of a blank memory is in range. -/
theorem witness_loadedLaw : ({} : LoadedCopy).Law :=
  ⟨fun c => by cases c <;> decide, fun c => by cases c <;> decide, by decide, by decide, by decide⟩

/-- A write of any byte to any address completes on channel A's port: for CommandRegister, ModeWrites, HeadFieldWrites,
ChannelFieldWrites, SelectsLevelsAndPreamplifierReset and EachWriteHasOneRow, at every address of their clauses. -/
theorem witness_writeCompletes (addr : Addr) (data : Byte) (ch : Channel) :
    (relaying (.write addr data) ch).writeCompletes .a ch.port.page addr data :=
  ⟨rfl, rfl, 1920, rfl, Nat.le_refl 2000⟩

theorem witness_CommandRegister :
    resting.port.page = some ({} : LoadedCopy).pageParam ∧ resting.plan ≠ .fault ∧ resting.plan ≠ .parked ∧
    resting.set.mode ≠ .halt ∧ ({ resting with plan := .fault } : Channel).plan = .fault ∧
    ({ resting with set := { mode := .halt } } : Channel).set.mode = .halt ∧ (0xC0 : Byte) ≠ 0xC1 ∧
    (0xC0 : Byte) ≠ 0xC2 := by decide

/-- A restart of a channel held in mode HALT ends HALTED with WU_c high (R50). -/
theorem test_restart_in_halt :
    let t := (after (.channelRestart .a) (relaying (.write 0x4B 0xC2)
      { resting with plan := .halted, lvl := .off, set := { mode := .halt } })).ch .a
    t.plan = .halted ∧ t.wu = true ∧ t.jnl.pending = [⟨.restarted, 0x0F, 0, 1⟩] := by decide

theorem test_fault_clear :
    let t := (after (.faultClear .a) (relaying (.write 0x4B 0xC1)
      { resting with plan := .fault, lvl := .off, wu := true })).ch .a
    t.plan = .rest ∧ t.lvl = .bias ∧ t.wu = false ∧ t.jnl.pending = [⟨.faultCleared, 0x0F, 0, 1⟩] := by decide

theorem witness_ModeWrites :
    2 ≤ (0xFE : Byte).toNat % 4 ∧ (0xFC : Byte).toNat % 4 = 0 ∧ (0xFD : Byte).toNat % 4 = 1 ∧
    resting.plan ≠ .parked := by decide

theorem test_mode_halt_refuses_the_records :
    let t := (after (.modeWriteHalt .a) (relaying (.write 0x41 3) (serving .lead .bias [burst]))).ch .a
    t.plan = .halted ∧ t.res = 0 ∧ t.jnl.pending = [⟨.refused, 1, 2, 1⟩] := by decide

theorem witness_HeadFieldWrites : (0x17 : Addr).toNat < 0x18 := by decide

/-- 0x01 to 0x19 over the memory 0xF4 is 500, kept as 400 (R118). -/
theorem test_high_byte_clamps :
    let h := { head with cal := { entry with l0Low := some 0xF4 } }
    let t := (after (.highByteWrite .a) (relaying (.write 0x19 0x01)
      { resting with heads := List.replicate 4 h })).ch .a
    t.heads.map (·.cal.l0) = [some 120, some 400, some 120, some 120] := by decide

/-- A broadcast reaches every entry; a value from heads_c upward reaches none (R116). -/
theorem test_broadcast :
    let wr := fun n => ((after (.headFieldWrite .a) (relaying (.write 0x1A 30)
      { resting with port := { resting.port with headSel := some n } })).ch .a).heads.map (·.cal.lmin)
    wr 15 = List.replicate 4 (some 30) ∧ wr 13 = List.replicate 4 (some 24) ∧
      wr 4 = List.replicate 4 (some 24) := by decide

/-- Stall limits at the clauses' bounds: 0, 1, 7 and 8 (R125). -/
theorem witness_ChannelFieldWrites :
    (after (.stallLimitWrite .a) (relaying (.write 0x49 0) resting)).chA.set.stallLimit = 0 ∧
    (after (.stallLimitWrite .a) (relaying (.write 0x49 1) resting)).chA.set.stallLimit = 8 ∧
    (after (.stallLimitWrite .a) (relaying (.write 0x49 7) resting)).chA.set.stallLimit = 8 ∧
    (after (.stallLimitWrite .a) (relaying (.write 0x49 255) resting)).chA.set.stallLimit = 255 := by decide

/-- A byte of 0x80 to 0x47 gives k_a of −128 (R124). -/
theorem test_ka_is_signed :
    (after (.heatSettingWrite .a) (relaying (.write 0x47 0x80) resting)).chA.set.ka.toInt = -128 := by decide

theorem test_monitor_register :
    let f := (after (.monitorRegisterWrite .a) (relaying (.write 0x48 0xC3) resting)).chA.set
    f.monPeriod = 256 ∧ f.nLoss = 1 ∧ f.settle = 3 := by decide

/-- A band that is absent takes the target away, and REST goes OFF (R122). -/
theorem test_band_select :
    let t := (after (.bandSelectWrite .a) (relaying (.write 0x40 0x0C) resting)).chA
    t.set.band = 4 ∧ t.lvl = .off := by decide

theorem test_wedge_level :
    (after (.wedgeLevelWrite .a) (relaying (.write 0x4A 0xFF) resting)).chA.set.wedge = .off := by decide

/-- The memory at 1 does not arm again (R128). -/
theorem test_inject :
    (after (.injectWrite .a) (relaying (.write 0x4C 1) resting)).chA.mon.armed = true ∧
    (after (.injectWrite .a) (relaying (.write 0x4C 1) { resting with injectMemory := true })).chA.mon.armed =
      false := by decide

/-- Pages 0 and 1 under the shadow, for the preamplifier reset and the level registers. -/
theorem witness_SelectsLevelsAndPreamplifierReset :
    ({ resting with port := { resting.port with page := some 1 } } : Channel).port.page = some 1 ∧
    ({ resting with port := { resting.port with page := some 0 } } : Channel).port.page = some 0 := by decide

theorem test_preamplifier_reset :
    let t := (after (.preamplifierReset .a) (relaying (.write 0x7C 0x5A)
      { resting with port := { resting.port with page := some 0 } })).chA
    t.port.headSel = some 0 ∧ t.image = ⟨some 0, some 0, some 0⟩ ∧ t.jnl.dropped = true ∧
      t.jnl.lastSummary = some 0 := by decide

theorem test_level_register :
    (after (.levelRegisterWrite .a) (relaying (.write 0x11 7)
      { resting with port := { resting.port with page := some 1 } })).chA.image.warm = some 7 := by decide

/-- A write to the journal page is received by no block (R143). -/
theorem test_journal_page_write_is_none :
    after (.relayedWrite .a) (relaying (.write 0x20 9)
      { resting with port := { resting.port with page := some 13 } }) =
      { part 2000 { resting with nextTick := 2048, port := { resting.port with page := some 13 } } with
        rdy := true } := by decide

theorem witness_RelayedReads (addr : Addr) (hold : ReadHold) (ch : Channel) :
    (relaying (.read addr hold) ch).readCompletes .a addr hold := ⟨rfl, rfl, 1920, _, rfl, Nat.le_refl 2000⟩

/-- The boundaries of the clauses: slots 0 and 7, the summary at 0x20, the temperature at 0x30 of page 0. -/
theorem witness_RelayedReads_rows :
    (slotRead {} (some 13) 0x03, slotRead {} (some 13) 0x1F, slotRead {} (some 13) 0x23) =
      (some 0, some 7, none) ∧ isSummary {} (some 13) 0x20 = true ∧ isTemperature {} (some 0) 0x30 = true ∧
    readMatches {} (some 13) 0x1E .held .other = true := by decide

/-- A read released early frees its slot all the same, and its byte is dropped (R134, R166). -/
theorem test_slot_read_released :
    let t := after (.journalSlotRead .a 1) (relaying (.read 0x07 .released)
      { resting with
        port := { resting.port with page := some 13 }
        jnl := { slots := List.replicate 8 .occupied } })
    t.chA.jnl.slots = [.occupied, .free] ++ List.replicate 6 .occupied ∧ t.reception = .idle := by decide

theorem test_summary_read_clears :
    let s := fun byte => after (.summaryRead .a byte) (relaying (.read 0x20 .held)
      { resting with port := { resting.port with page := some 13 }, jnl := { dropped := true } })
    (s 0x10).chA.jnl.dropped = false ∧ (s 0x2F).chA.jnl.dropped = true := by decide

theorem test_temperature_read :
    let t := after (.temperatureRead .a 70) (relaying (.read 0x30 .held)
      { resting with port := { resting.port with page := some 0 } })
    t.chA.ambient = 70 ∧ t.chA.ambientSet = true := by decide

/-! ## Upstream frames, the arbiter -/

/-- A frame in reception; a read waiting, with and without a downstream frame; one delivered; one ignored; a write of
15 bits and one of 16; a parked channel. -/
theorem witness_UpstreamFrames :
    let s := part 1100 resting
    s.reception = .idle ∧ (s.ch .a).heads ≠ [] ∧ s.slot = none ∧
    ({ s with reception := .receiving .a }).reception = .receiving .a ∧
    directionIs false (List.replicate 15 false) = true ∧ (List.replicate 15 false).length < 16 ∧
    ((part 1100 { resting with heads := [] }).ch .a).heads = [] ∧
    (s.ch .a).port.job = none ∧
    ((relaying (.read 3 .held) resting).ch .a).port.job = some ⟨1920, .relayed (some 12)⟩ ∧
    ({ relaying (.read 3 .held) resting with reception := .reading .a }).slot = some ⟨.a, .read 3 .held⟩ := by decide

theorem test_short_write_is_discarded :
    let s := { part 1100 resting with reception := .receiving .a }
    (after (.upstreamWriteEnd (List.replicate 15 false)) s).slot = none ∧
    (after (.upstreamWriteEnd (List.replicate 17 false)) s).slot = some ⟨.a, .write 0 0⟩ := by decide

/-- A low select line is an active one (R177): SEL_A low alone begins a frame for channel A, both low one that is
ignored. -/
theorem test_select_lines_are_active_low :
    (after (.upstreamFrameStart false true) (part 1100 resting)).reception = .receiving .a ∧
    (after (.upstreamFrameStart true false) (part 1100 resting)).reception = .receiving .b ∧
    (after (.upstreamFrameStart false false) (part 1100 resting)).reception = .ignored := by decide

theorem witness_FrameBitsAgree : 15 ≤ (List.replicate 15 true).length := by decide

/-- A write of 0xC1 to 0x4B and a read of 0x30, clocked in and granted, and an inserted frame. -/
theorem witness_FrameBitsAgree_port :
    let s := { part 1100 resting with reception := .receiving .a }
    let put := after (.upstreamWriteEnd (frameBits false 0x4B 0xC1)) s
    let get := after (.upstreamReadAddress ((frameBits true 0x30 0).take 8)) s
    exec (.upstreamWriteEnd (frameBits false 0x4B 0xC1)) s = .next put ∧
    exec (.upstreamReadAddress ((frameBits true 0x30 0).take 8)) s = .next get ∧
    put.choice .a = some .relayed ∧ get.choice .a = some .relayed ∧
    ((after (.relayedFrameGrant .a) put).portFrame .a) = some (frameBits false 0x4B 0xC1) ∧
    ((inserting .upkeep [.content 0x10 40] resting).ch .a).port.job =
      some ⟨1920, .inserted .upkeep [.content 0x10 40]⟩ :=
  ⟨rfl, rfl, by decide, by decide, by decide, rfl⟩

/-- Level write under page 1, while a journal sequence has the shadow at 13 and will restore 1: the frame is protected,
the channel held, and a rise refused HELD, detail 4 (R14, R141, R142, R175; log 17). -/
theorem test_held_through_a_sequence :
    let ch := ripe { resting with port := { resting.port with
      page := some 13, job := some ⟨1920, .inserted (.record 0) [.content 0 2, .selectPage 1]⟩ } }
    let s := { part 1950 ch with slot := some ⟨.a, .write 0x10 7⟩, rdy := false }
    ch.holdsProtected .a s.slot = true ∧
    ((after (.upstreamRise .a) s).ch .a).queue.map (·.outcome) = [.refused .held] := by decide

/-- A protected frame waits while the channel is active, and an upkeep request with it; a record before a summary. -/
theorem witness_ArbiterOrder :
    let want := { resting with image := {} }
    let rec1 := { resting with jnl := { pending := [⟨.restarted, 0x0F, 0, 1⟩] } }
    resting.jnl.slots.length = 8 ∧
    ({ part 1100 resting with slot := some ⟨.a, .write 0x7D 0⟩ }).choice .a = some .relayed ∧
    ({ part 1100 (serving .lead .bias [burst]) with slot := some ⟨.a, .write 0x7D 0⟩ }).choice .a = none ∧
    (part 1100 want).choice .a = some .upkeep ∧ (part 1100 rec1).choice .a = some .record ∧
    (part 1100 { resting with wu := true }).choice .a = some .summary ∧
    State.reset.choice .a = some .learning ∧ (part 1100 resting).choice .a = none := by decide

/-- The choices above, with a known page shadow, a target and a pending record. -/
theorem witness_Grants :
    resting.port.page = some 12 ∧ resting.target = some (40, 120, 150) ∧
    ({ resting with jnl := { pending := [⟨.restarted, 0x0F, 0, 1⟩] } } : Channel).jnl.pending =
      ⟨.restarted, 0x0F, 0, 1⟩ :: [] := by decide

/-- An upkeep that lacks two of the three values, on page 12: four frames (R152). -/
theorem test_upkeep_sequence :
    (after (.upkeepSequenceGrant .a) (part 1100 { resting with image := { warm := some 120 } })).chA.port.job =
      some ⟨1100, .inserted .upkeep
        [.selectPage 1, .content 0x10 40, .content 0x12 150, .selectPage 12]⟩ := by decide

theorem test_record_sequence :
    (after (.recordSequenceGrant .a) (part 1100
      { resting with jnl := { pending := [⟨.truncated, 1, 2, 3⟩], nextWrite := 7 } })).chA.port.job =
      some ⟨1100, .inserted (.record 7) [.selectPage 13, .content 28 2, .content 29 1, .content 30 2,
        .content 31 3, .selectPage 12]⟩ := by decide

theorem witness_InsertedFrames (o : SeqOwner) (f : InsertedFrame) (rest : List InsertedFrame) :
    (inserting o (f :: rest) resting).insertedCompletes .a o f rest := ⟨rfl, 1920, rfl, Nat.le_refl 2000⟩

/-- After slot 7 the next-write index is 0 (R165). -/
theorem test_record_ends :
    let t := (after (.insertedPageSelectComplete .a) (inserting (.record 7) [.selectPage 12]
      { resting with jnl := { nextWrite := 7 } })).chA
    t.jnl.nextWrite = 0 ∧ t.jnl.slots.getLast? = some .occupied ∧ t.port.job = none := by decide

theorem test_learning_ends :
    let t := (after (.learningReadComplete .a 0xF1) (inserting .learning [.readHead]
      { resting with port := { page := some 0, learning := .running } })).chA
    t.port.headSel = some 1 ∧ t.port.learning = .complete := by decide

/-! ## The laws -/

/-- A state in the middle of a burst: channel A in LEAD with its record and reservation, channel B at rest. -/
def midway : State := part 1080 (ripe (serving .lead .bias [burst]))

theorem midway_headroom : midway.HeadroomLaw :=
  ⟨by decide, fun c => by cases c <;> decide, fun c => by cases c <;> decide⟩

theorem midway_cover (c : Chan) : (midway.ch c).CoverLaw := by
  cases c
  · intro r hr _
    have h : ∀ r ∈ (midway.ch .a).queue, r = burst := by decide
    rw [h r hr]
    exact ⟨120, 150, 31, rfl, rfl, rfl, by decide⟩
  · intro r hr
    cases hr

theorem midway_journal (c : Chan) : (midway.ch c).JournalLaw := by
  cases c <;> refine ⟨by decide, by decide, by decide, by decide, fun n => ⟨fun h => absurd h ?_, ?_⟩⟩
  · revert n; decide
  · rintro ⟨_, _, _, h⟩; cases h
  · revert n; decide
  · rintro ⟨_, _, _, h⟩; cases h

theorem midway_queue (c : Chan) : (midway.ch c).QueueLaw midway.now (midway.delay c) := by
  have one : ∀ r ∈ (midway.ch .a).queue, r = burst := by decide
  have none' : ∀ r, r ∉ (midway.ch .b).queue := fun r h => by cases h
  cases c
  · constructor
    case falls => intro r hr f hf; rw [one r hr] at hf; cases hf
    case leads => intro r hr _; rw [one r hr]; exact ⟨75, rfl, by decide⟩
    case ceilings => intro r hr _; rw [one r hr]; exact ⟨31, rfl, by decide⟩
    all_goals decide
  · constructor
    case falls => exact fun r hr => absurd hr (none' r)
    case leads => exact fun r hr => absurd hr (none' r)
    case ceilings => exact fun r hr => absurd hr (none' r)
    all_goals decide

theorem midway_plan (c : Chan) : (midway.ch c).PlanLaw := by
  cases c
  · constructor
    case served => exact fun _ => ⟨burst, rfl, rfl, fun h => absurd rfl h⟩
    case faded => intro h; cases h
    all_goals decide
  · constructor
    case served => intro h; cases h
    case faded => intro h; cases h
    all_goals decide

theorem midway_heat (c : Chan) : midway.HeatLaw c := by
  have heads : ∀ h ∈ (midway.ch c).heads, h = head := by cases c <;> decide
  constructor
  case values =>
    intro h hh
    rw [heads h hh]
    exact ⟨by decide, fun l hl => by cases hl; decide⟩
  all_goals cases c <;> decide

theorem midway_monitor (c : Chan) : (midway.ch c).MonitorLaw := by cases c <;> constructor <;> decide

theorem midway_relay : midway.RelayLaw := by
  constructor
  case rdy => decide
  case reset => intro h; cases h rfl
  case reading =>
    intro c
    constructor
    · intro h; cases h
    · rintro ⟨_, h⟩; cases h
  case receiving => intro c h; cases h
  case learned => intro c _; cases c <;> exact ⟨rfl, rfl, fun _ _ h => by cases h⟩
  case learning => intro c h; cases c <;> exact absurd rfl h
  case relayed => intro c _ _ h; cases c <;> cases h
  case parked => intro c h; cases c <;> cases h
  all_goals intro c; cases c <;> decide

/-- A lawful state other than the one after reset, for LawfulIsKept, HeadroomLawIsKept, JournalLawIsKept,
OutcomeChangesAtMostOnce and SequencesRestoreThePage. -/
theorem witness_LawfulIsKept : midway.Lawful :=
  ⟨witness_loadedLaw, fun c => by cases c <;> exact ⟨by decide, by decide⟩, midway_queue, midway_plan, midway_headroom, midway_cover, midway_journal, midway_monitor,
    midway_heat, midway_relay⟩

theorem witness_HeadroomLawIsKept :
    midway.HeadroomLaw ∧ midway.RelayLaw ∧ (∀ c, (midway.ch c).CoverLaw) ∧ midway.chA.res = 181 :=
  ⟨midway_headroom, midway_relay, midway_cover, rfl⟩

theorem witness_JournalLawIsKept : ∀ c, (midway.ch c).JournalLaw := midway_journal

/-- A step of it: the servo gate rises. -/
theorem witness_step : step { midway with pending := [.servoRise .a] } = .next (after (.servoRise .a) midway) := rfl

/-- Its record before and after. -/
theorem witness_OutcomeChangesAtMostOnce :
    let t := after (.modeWriteHalt .a) (relaying (.write 0x41 2) (serving .lead .bias [burst]))
    burst ∈ (midway.ch .a).queue ∧ burst ∈ ((after (.servoRise .a) midway).ch .a).queue ∧
    (t.ch .a).queue.map (·.outcome) = [.refused .halted] := by decide

theorem witness_SequencesRestoreThePage :
    exec (.servoRise .a) midway = .next (after (.servoRise .a) midway) ∧ (Instr.servoRise .a).isReset = false ∧
    Instr.servoRise .a ≠ .pageSelectWrite .a ∧ Instr.servoRise .a ≠ .preamplifierReset .a :=
  ⟨rfl, rfl, by decide, by decide⟩

end Sys2Proof.Tests
end

section
/-! SUPPORT. What a command can do, said once: the commands of a channel by the change they make on it, a relayed write
or read by its completion, an upstream frame by the part's slot and reception. -/

namespace Sys2Proof.Machine

@[simp] theorem State.upd_ch_self (c : Chan) (s : State) : (s.upd c fun _ => s.ch c) = s := by cases c <;> rfl

theorem State.upd_const (c : Chan) (f : Channel → Channel) (s : State) : s.upd c f = s.upd c fun _ => f (s.ch c) := by
  cases c <;> rfl

/-! ## Relayed writes and reads -/

/-- What a completed write of each kind does to its channel (R143). -/
def WriteKind.effect (now : Nat) : WriteKind → Addr → Byte → Channel → Channel
  | .pageSelect, _, data => Channel.setPage (lowNibble data)
  | .headSelect, _, data => Channel.setHeadSel now (lowNibble data)
  | .preampReset, _, _ => Channel.seePreampReset now
  | .levelRegister, addr, data => Channel.imageWrite addr data
  | .headField, addr, data => Channel.writeEntries now (HeadEntry.writeByte addr data)
  | .lowByte, addr, data => Channel.writeEntries now (HeadEntry.writeLow addr data)
  | .highByte, addr, data => Channel.writeEntries now (HeadEntry.writeHigh addr data)
  | .bandSelect, _, data => fun ch => Channel.refreshRest now (ch.setFields fun f => { f with band := data.setWidth 3 })
  | .modeNormal, _, _ => Channel.setRunMode now .normal
  | .modeShadow, _, _ => Channel.setRunMode now .shadow
  | .modeHalt, _, _ => Channel.setHalt now
  | .heatSetting, addr, data => Channel.setFields (ChannelFields.writeHeat addr data)
  | .monitorRegister, _, data => Channel.setFields (ChannelFields.writeMonitor data)
  | .stallLimit, _, data => Channel.setFields fun f => { f with stallLimit := stallLimitOf data }
  | .wedgeLevel, _, data => Channel.setFields fun f => { f with wedge := if data.getLsbD 0 then .off else .bias }
  | .faultClear, _, _ => Channel.clearFault now
  | .channelRestart, _, _ => Channel.restart now
  | .inject, _, data => Channel.inject (data.getLsbD 0)
  | .other, _, _ => fun ch => ch

/-- The row of each kind of write runs the completion of that kind. -/
theorem exec_writeCommand (k : WriteKind) (c : Chan) (s : State) :
    exec (k.command c) s = .next (s.completeWrite c k (k.effect s.now)) := by cases k <;> rfl

/-- The row of the table of each kind of read (R144). -/
def ReadKind.command (c : Chan) (byte : Byte) : ReadKind → Instr
  | .temperature => .temperatureRead c byte
  | .journalSlot => .journalSlotRead c byte
  | .summary => .summaryRead c byte
  | .other => .relayedRead c byte

/-- The row of each kind of read runs the completion of that kind. -/
theorem exec_readCommand (k : ReadKind) (c : Chan) (byte : Byte) (s : State) :
    exec (k.command c byte) s = .next (s.completeRead c k byte) := by cases k <;> rfl

/-- What a completed read does to its channel (R144). -/
def readEffect (l : LoadedCopy) (addr : Addr) (hold : ReadHold) (byte : Byte) (ch : Channel) : Channel :=
  if hold = .doubled then ch else ch.deliverRead l addr byte

/-! ## The commands of a channel -/

/-- The change that a taken event of the write path, the planner, the heat model or the monitor makes. -/
inductive State.Move (c : Chan) (s : State) : Instr → Channel → Prop where
  | rise (h : riseTaken (s.ch c) = true) : Move c s (.upstreamRise c)
      ((s.ch c).takeRise s.now (s.delay c) ((s.ch c).holdsProtected c s.slot) (s.avail c))
  | fall (h : fallTaken (s.ch c) = true) : Move c s (.upstreamFall c) ((s.ch c).takeFall s.now)
  | returnLow (h : (s.ch c).markWaits = true) :
    Move c s (.rawGateReturnLow c) { s.ch c with disregard := false, uwgHeld := 0 }
  | servoRise (h : servoRiseTaken (s.ch c) = true) :
    Move c s (.servoRise c) (Channel.servoUp s.now { s.ch c with sg := true, sgHeld := 0 })
  | servoFall (h : servoFallTaken (s.ch c) = true) :
    Move c s (.servoFall c) (Channel.servoDown s.now (s.delay c) { s.ch c with sg := false, sgHeld := 0 })
  | warmStart {rise : Nat} {r : BurstRecord} (hr : (s.ch c).recordAt rise = some r)
      (h : r.warmDue s.now (s.delay c) = true) :
    Move c s (.warmStart c rise) ((s.ch c).takeWarmStart s.now r)
  | writeStart {rise : Nat} {r : BurstRecord} (hr : (s.ch c).recordAt rise = some r)
      (h : r.startDue s.now (s.delay c) = true) :
    Move c s (.writeStart c rise) ((s.ch c).takeWriteStart s.now r)
  | writeEnd {rise : Nat} {r : BurstRecord} (hr : (s.ch c).recordAt rise = some r)
      (h : r.endDue s.now (s.delay c) = true) :
    Move c s (.writeEnd c rise) ((s.ch c).takeWriteEnd s.now (s.delay c) r)
  | tailEnd {rise : Nat} {r : BurstRecord} (hr : (s.ch c).recordAt rise = some r)
      (h : (s.ch c).tailDue s.now r = true) :
    Move c s (.tailEnd c rise) (((s.ch c).leave r).placeAfter s.now (s.delay c) r)
  | stallCut {r : BurstRecord} (hr : (s.ch c).stalled = some r) (h : (s.ch c).uwg = true) :
    Move c s (.stallCut c) ((s.ch c).cut s.now (s.delay c) r)
  | heatTick (h : (s.ch c).nextTick ≤ s.now) : Move c s (.heatTick c) ((s.ch c).takeTick s.now)
  | sample {lines : BitVec 2} (h : hasCome s.now (s.ch c).mon.due = true) :
    Move c s (.monitorSample c lines) ((s.ch c).takeSample s.now lines)

/-- The change that a grant, or the completion of an inserted frame, makes (R137 to R140, R152, R165, R167). -/
inductive State.Frame (c : Chan) (s : State) : Instr → Channel → Prop where
  | grantRelayed (h : s.choice c = some .relayed) :
    Frame c s (.relayedFrameGrant c) ((s.ch c).startJob s.now (.relayed (s.ch c).port.page))
  | grantLearning (h : s.choice c = some .learning) :
    Frame c s (.learningSequenceGrant c) ((s.ch c).startLearning s.now)
  | grantUpkeep (h : s.choice c = some .upkeep) :
    Frame c s (.upkeepSequenceGrant c) ((s.ch c).startUpkeep s.now)
  | grantRecord (h : s.choice c = some .record) :
    Frame c s (.recordSequenceGrant c) ((s.ch c).startRecord s.now s.loaded.pageJournal)
  | grantSummary (h : s.choice c = some .summary) :
    Frame c s (.summarySequenceGrant c) ((s.ch c).startSummary s.now s.loaded.pageJournal)
  | learnPage {byte : Byte} {rest : List InsertedFrame} (h : s.insertedDue c = some (.learning, .readPage :: rest)) :
    Frame c s (.learningReadComplete c byte) (((s.ch c).setPage (lowNibble byte)).advance s.now .learning rest)
  | learnHead {byte : Byte} {rest : List InsertedFrame} (h : s.insertedDue c = some (.learning, .readHead :: rest)) :
    Frame c s (.learningReadComplete c byte)
      (((s.ch c).setHeadSel s.now (lowNibble byte)).advance s.now .learning rest)
  | pageSelected {o : SeqOwner} {p : Nibble} {rest : List InsertedFrame}
      (h : s.insertedDue c = some (o, .selectPage p :: rest)) :
    Frame c s (.insertedPageSelectComplete c) (((s.ch c).setPage p).advance s.now o rest)
  | upkeepWritten {addr : Addr} {data : Byte} {rest : List InsertedFrame}
      (h : s.insertedDue c = some (.upkeep, .content addr data :: rest)) :
    Frame c s (.upkeepWriteComplete c) (((s.ch c).imageWrite addr data).advance s.now .upkeep rest)
  | recordWritten {n : BitVec 3} {addr : Addr} {data : Byte} {rest : List InsertedFrame}
      (h : s.insertedDue c = some (.record n, .content addr data :: rest)) :
    Frame c s (.journalWriteComplete c) ((s.ch c).advance s.now (.record n) rest)
  | summaryWritten {v : Byte} {addr : Addr} {data : Byte} {rest : List InsertedFrame}
      (h : s.insertedDue c = some (.summary v, .content addr data :: rest)) :
    Frame c s (.journalWriteComplete c) ((s.ch c).advance s.now (.summary v) rest)

/-- What a command of channel `c` answers: no change, a move of the channel, a frame of the
part's own, or the completion of a relayed frame. -/
inductive State.Answer (c : Chan) (s : State) (i : Instr) : State → Prop where
  | unchanged : Answer c s i s
  | move {ch' : Channel} (hr : s.phase = .running) (h : s.Move c i ch') : Answer c s i (s.upd c fun _ => ch')
  | frame {ch' : Channel} (hr : s.phase = .running) (h : s.Frame c i ch') : Answer c s i (s.upd c fun _ => ch')
  | write {k : WriteKind} {page : Option Nibble} {addr : Addr} {data : Byte} (hi : i = k.command c)
      (h : s.writeCompletes c page addr data) (hk : writeKind s.loaded.pageParam page addr data = k) :
    Answer c s i (s.delivered c (k.effect s.now addr data))
  | read {k : ReadKind} {byte : Byte} {addr : Addr} {hold : ReadHold} (hi : i = k.command c byte)
      (h : s.readCompletes c addr hold) (hk : readMatches s.loaded (s.ch c).port.page addr hold k = true) :
    Answer c s i { s.delivered c (readEffect s.loaded addr hold byte) with
      reception := receptionAfterRead c byte s.reception }

/-- An outcome that is such an answer. -/
def State.Answers (c : Chan) (s : State) (i : Instr) (o : Host.Outcome State Fault Refusal) : Prop :=
  ∃ t, o = .next t ∧ s.Answer c i t

theorem State.Answers.unchanged {c : Chan} {s : State} {i : Instr} : s.Answers c i (.next s) := ⟨s, rfl, .unchanged⟩

/-- A guarded command of a channel makes its move or no change. -/
theorem State.Answers.of_running {c : Chan} {s : State} {i : Instr} {b : Bool} {f : Channel → Channel}
    (h : b = true → s.Move c i (f (s.ch c))) :
    s.Answers c i (if s.running && b then .next (s.upd c f) else .next s) := by
  split
  · next hp =>
    rw [Bool.and_eq_true, State.running_iff] at hp
    exact ⟨_, rfl, s.upd_const c f ▸ .move hp.1 (h hp.2)⟩
  · exact unchanged

theorem State.Answers.of_choice {c : Chan} {s : State} {i : Instr} {w : Work} {f : Channel → Channel}
    (h : s.choice c = some w → s.Frame c i (f (s.ch c))) :
    s.Answers c i (if s.choice c = some w then .next (s.upd c f) else .next s) := by
  split
  · next hp => exact ⟨_, rfl, s.upd_const c f ▸ .frame (State.choice_eq_some hp).1 (h hp)⟩
  · exact unchanged

theorem State.Answers.of_inserted {c : Chan} {s : State} {i : Instr} {o : SeqOwner} {fs : List InsertedFrame}
    {f : Channel → Channel} (hd : s.insertedDue c = some (o, fs)) (h : s.Frame c i (f (s.ch c))) :
    s.Answers c i (.next (s.upd c f)) :=
  ⟨_, rfl, s.upd_const c f ▸ .frame (State.insertedDue_eq_some.1 hd).1 h⟩

theorem State.Answers.of_write (k : WriteKind) (c : Chan) (s : State) :
    s.Answers c (k.command c) (exec (k.command c) s) := by
  refine ⟨_, exec_writeCommand k c s, ?_⟩
  rcases s.completeWrite_cases c k (k.effect s.now) with h | ⟨page, addr, data, hw, hk, h⟩
  · rw [h]; exact .unchanged
  · rw [h]; exact .write rfl hw hk

theorem State.Answers.of_read (k : ReadKind) (c : Chan) (byte : Byte) (s : State) :
    s.Answers c (k.command c byte) (exec (k.command c byte) s) := by
  refine ⟨_, exec_readCommand k c byte s, ?_⟩
  rcases s.completeRead_cases c k byte with h | ⟨addr, hold, hr, hk, h⟩
  · rw [h]; exact .unchanged
  · rw [h]; exact .read rfl hr hk

theorem State.Answers.of_learningRead (c : Chan) (byte : Byte) (s : State) :
    s.Answers c (.learningReadComplete c byte) (execLearningReadComplete c byte s) := by
  unfold execLearningReadComplete
  split
  · next hd =>
    split
    · next ho => subst ho; exact of_inserted hd (.learnPage hd)
    · exact unchanged
  · next hd =>
    split
    · next ho => subst ho; exact of_inserted hd (.learnHead hd)
    · exact unchanged
  · exact unchanged

theorem State.Answers.of_pageSelect (c : Chan) (s : State) :
    s.Answers c (.insertedPageSelectComplete c) (execInsertedPageSelectComplete c s) := by
  unfold execInsertedPageSelectComplete
  split
  · next hd => exact of_inserted hd (.pageSelected hd)
  · exact unchanged

theorem State.Answers.of_upkeepWrite (c : Chan) (s : State) :
    s.Answers c (.upkeepWriteComplete c) (execUpkeepWriteComplete c s) := by
  unfold execUpkeepWriteComplete
  split
  · next hd => exact of_inserted hd (.upkeepWritten hd)
  · exact unchanged

theorem State.Answers.of_journalWrite (c : Chan) (s : State) :
    s.Answers c (.journalWriteComplete c) (execJournalWriteComplete c s) := by
  unfold execJournalWriteComplete
  split
  · next hd => exact of_inserted hd (.recordWritten hd)
  · next hd => exact of_inserted hd (.summaryWritten hd)
  · exact unchanged

/-- Every command of a channel answers, in one of these ways. -/
theorem exec_answers {i : Instr} {c : Chan} (s : State) (hc : i.channel = some c) : s.Answers c i (exec i s) := by
  cases i <;> cases hc
  case upstreamRise.refl => exact .of_running fun h => .rise h
  case upstreamFall.refl => exact .of_running fun h => .fall h
  case rawGateReturnLow.refl => exact .of_running fun h => .returnLow h
  case servoRise.refl => exact .of_running fun h => .servoRise h
  case servoFall.refl => exact .of_running fun h => .servoFall h
  case warmStart.refl =>
    simp only [exec, execWarmStart]
    split
    · next hr => exact .of_running fun h => .warmStart hr h
    · exact .unchanged
  case writeStart.refl =>
    simp only [exec, execWriteStart]
    split
    · next hr => exact .of_running fun h => .writeStart hr h
    · exact .unchanged
  case writeEnd.refl =>
    simp only [exec, execWriteEnd]
    split
    · next hr => exact .of_running fun h => .writeEnd hr h
    · exact .unchanged
  case tailEnd.refl =>
    simp only [exec, execTailEnd]
    split
    · next hr => exact .of_running fun h => .tailEnd hr h
    · exact .unchanged
  case stallCut.refl =>
    simp only [exec, execStallCut]
    split
    · next hr => exact .of_running fun h => .stallCut hr h
    · exact .unchanged
  case heatTick.refl => exact .of_running fun h => .heatTick (of_decide_eq_true h)
  case monitorSample.refl => exact .of_running fun h => .sample h
  case relayedFrameGrant.refl => exact .of_choice fun h => .grantRelayed h
  case learningSequenceGrant.refl => exact .of_choice fun h => .grantLearning h
  case upkeepSequenceGrant.refl => exact .of_choice fun h => .grantUpkeep h
  case recordSequenceGrant.refl => exact .of_choice fun h => .grantRecord h
  case summarySequenceGrant.refl => exact .of_choice fun h => .grantSummary h
  case learningReadComplete.refl byte => exact .of_learningRead c byte s
  case insertedPageSelectComplete.refl => exact .of_pageSelect c s
  case upkeepWriteComplete.refl => exact .of_upkeepWrite c s
  case journalWriteComplete.refl => exact .of_journalWrite c s
  case faultClear.refl => exact .of_write .faultClear c s
  case channelRestart.refl => exact .of_write .channelRestart c s
  case modeWriteHalt.refl => exact .of_write .modeHalt c s
  case modeWriteNormal.refl => exact .of_write .modeNormal c s
  case modeWriteShadow.refl => exact .of_write .modeShadow c s
  case injectWrite.refl => exact .of_write .inject c s
  case bandSelectWrite.refl => exact .of_write .bandSelect c s
  case headFieldWrite.refl => exact .of_write .headField c s
  case lowByteWrite.refl => exact .of_write .lowByte c s
  case highByteWrite.refl => exact .of_write .highByte c s
  case heatSettingWrite.refl => exact .of_write .heatSetting c s
  case monitorRegisterWrite.refl => exact .of_write .monitorRegister c s
  case stallLimitWrite.refl => exact .of_write .stallLimit c s
  case wedgeLevelWrite.refl => exact .of_write .wedgeLevel c s
  case pageSelectWrite.refl => exact .of_write .pageSelect c s
  case headSelectWrite.refl => exact .of_write .headSelect c s
  case levelRegisterWrite.refl => exact .of_write .levelRegister c s
  case preamplifierReset.refl => exact .of_write .preampReset c s
  case relayedWrite.refl => exact .of_write .other c s
  case temperatureRead.refl byte => exact .of_read .temperature c byte s
  case journalSlotRead.refl byte => exact .of_read .journalSlot c byte s
  case summaryRead.refl byte => exact .of_read .summary c byte s
  case relayedRead.refl byte => exact .of_read .other c byte s

/-- The same, for the state that a command is known to leave. -/
theorem exec_answer {i : Instr} {c : Chan} {s t : State} (hc : i.channel = some c) (h : exec i s = .next t) :
    s.Answer c i t := by
  obtain ⟨u, hu, ha⟩ := exec_answers s hc
  rw [hu] at h
  cases h
  exact ha

/-- A command of one channel leaves the other. -/
theorem State.Answer.ch_other {i : Instr} {c : Chan} {s t : State} (h : s.Answer c i t) :
    t.ch (otherChan c) = s.ch (otherChan c) := by
  cases h with
  | unchanged => rfl
  | move => simp
  | frame => simp
  | write => simp
  | read => cases c <;> rfl

end Sys2Proof.Machine
end

section
/-! SUPPORT. What every act of the Laser Planner keeps: `Channel.Planned` relates a channel to what it becomes when
records are marked, end or leave, events are posted and the plan is placed anew. It is transitive, and each operation of
the Planner is a case of it. -/

namespace Sys2Proof.Machine

/-! ## Outcomes of records (R8) -/

theorem BurstRecord.isAccepted_iff {r : BurstRecord} : r.isAccepted = true ↔ r.outcome = .accepted := by
  unfold BurstRecord.isAccepted; split <;> simp_all

theorem BurstRecord.isShadow_iff {r : BurstRecord} : r.isShadow = true ↔ r.outcome = .shadow := by
  unfold BurstRecord.isShadow; split <;> simp_all

theorem BurstRecord.served_iff {r : BurstRecord} :
    r.served = true ↔ r.outcome = .accepted ∨ r.outcome = .shadow := by
  simp [BurstRecord.served, isAccepted_iff, isShadow_iff]

theorem BurstRecord.isAccepted_congr {r r' : BurstRecord} (h : r'.outcome = r.outcome) :
    r'.isAccepted = r.isAccepted := by
  simp [BurstRecord.isAccepted, h]

theorem BurstRecord.served_congr {r r' : BurstRecord} (h : r'.outcome = r.outcome) : r'.served = r.served := by
  simp [BurstRecord.served, BurstRecord.isAccepted, BurstRecord.isShadow, h]

theorem BurstRecord.served_of_isAccepted {r : BurstRecord} (h : r.isAccepted = true) : r.served = true := by
  simp [BurstRecord.served, h]

/-- A refused record is not served (R8). -/
theorem BurstRecord.refuse_not_served (why : RefuseReason) (r : BurstRecord) :
    (r.refuse why).served = false := by
  unfold BurstRecord.refuse
  split
  · simp [BurstRecord.served, BurstRecord.isAccepted, BurstRecord.isShadow]
  · next h => simpa using h

/-- The outcomes that an ACCEPTED or SHADOW record may end in at an instant (R8). -/
def BurstRecord.Ended (now : Nat) (r : BurstRecord) : Prop :=
  (∃ why, r.outcome = .truncated why now) ∨ r.outcome = .refused .faulted ∨ r.outcome = .refused .halted

theorem BurstRecord.Ended.not_served {now : Nat} {r : BurstRecord} (h : r.Ended now) : r.served = false := by
  rw [Bool.eq_false_iff, ne_eq, BurstRecord.served_iff]
  rcases h with ⟨_, h⟩ | h | h <;> simp [h]

/-- `r'` is the record `r` later on, its fall and stall timer untouched: what it captured is kept, and its outcome ends
at most (R6 to R8). -/
structure BurstRecord.Follows (now : Nat) (r r' : BurstRecord) : Prop where
  head : r'.head = r.head
  band : r'.band = r.band
  rise : r'.rise = r.rise
  fall : r'.fall = r.fall
  lead : r'.lead = r.lead
  ceiling : r'.ceiling = r.ceiling
  stall : r'.stall = r.stall
  outcome : r'.outcome = r.outcome ∨ r.served = true ∧ r'.Ended now

namespace BurstRecord.Follows

variable {now : Nat} {r r' r'' : BurstRecord}

theorem refl (now : Nat) (r : BurstRecord) : r.Follows now r := ⟨rfl, rfl, rfl, rfl, rfl, rfl, rfl, .inl rfl⟩

/-- A served record was served before, with the same outcome. -/
theorem outcome_of_served (h : r.Follows now r') (hs : r'.served = true) : r'.outcome = r.outcome := by
  rcases h.outcome with ho | ⟨-, he⟩
  · exact ho
  · rw [he.not_served] at hs; cases hs

theorem served (h : r.Follows now r') (hs : r'.served = true) : r.served = true :=
  served_congr (h.outcome_of_served hs) ▸ hs

theorem isAccepted (h : r.Follows now r') (ha : r'.isAccepted = true) : r.isAccepted = true :=
  isAccepted_congr (h.outcome_of_served (served_of_isAccepted ha)) ▸ ha

theorem trans (h : r.Follows now r') (h' : r'.Follows now r'') : r.Follows now r'' where
  head := h'.head.trans h.head
  band := h'.band.trans h.band
  rise := h'.rise.trans h.rise
  fall := h'.fall.trans h.fall
  lead := h'.lead.trans h.lead
  ceiling := h'.ceiling.trans h.ceiling
  stall := h'.stall.trans h.stall
  outcome := by
    rcases h'.outcome with ho' | ⟨hs, he⟩
    · rcases h.outcome with ho | ⟨hs, he⟩
      · exact .inl (ho'.trans ho)
      · exact .inr ⟨hs, by rwa [Ended, ho']⟩
    · exact .inr ⟨h.served hs, he⟩

end BurstRecord.Follows

/-! ## Queues -/

/-- `q'` is the queue `q` later on, with no rise between: records leave, and those that stay follow. -/
def QueueFollows (now : Nat) (q q' : List BurstRecord) : Prop :=
  List.SublistForall₂ (fun r' r => r.Follows now r') q' q

namespace QueueFollows

variable {now : Nat} {q q' q'' : List BurstRecord}

theorem refl (now : Nat) (q : List BurstRecord) : QueueFollows now q q :=
  List.sublistForall₂_iff.2 ⟨q, List.forall₂_same.2 fun r _ => .refl now r, .refl q⟩

theorem trans (h : QueueFollows now q q') (h' : QueueFollows now q' q'') : QueueFollows now q q'' :=
  haveI : IsTrans BurstRecord fun r' r => r.Follows now r' := ⟨fun _ _ _ hab hbc => hbc.trans hab⟩
  List.SublistForall₂.is_trans.trans q'' q' q h' h

theorem nil (now : Nat) (q : List BurstRecord) : QueueFollows now q [] := List.SublistForall₂.nil

theorem of_filter (now : Nat) (p : BurstRecord → Bool) (q : List BurstRecord) : QueueFollows now q (q.filter p) :=
  List.sublistForall₂_iff.2 ⟨_, List.forall₂_same.2 fun r _ => .refl now r, List.filter_sublist⟩

theorem of_map {f : BurstRecord → BurstRecord} (h : ∀ r ∈ q, r.Follows now (f r)) : QueueFollows now q (q.map f) :=
  List.sublistForall₂_iff.2 ⟨q, by simpa [List.forall₂_map_left_iff, List.forall₂_same] using h, .refl q⟩

theorem exists_of_mem (h : QueueFollows now q q') {r' : BurstRecord} (hr : r' ∈ q') :
    ∃ r ∈ q, r.Follows now r' := by
  obtain ⟨l, hf, hs⟩ := List.sublistForall₂_iff.1 h
  obtain ⟨i, hi, rfl⟩ := List.mem_iff_getElem.1 hr
  have hl : i < l.length := hf.length_eq ▸ hi
  exact ⟨l[i], hs.subset (List.getElem_mem hl), List.Forall₂.get hf hi hl⟩

theorem length_le (h : QueueFollows now q q') : q'.length ≤ q.length := by
  obtain ⟨l, hf, hs⟩ := List.sublistForall₂_iff.1 h
  exact hf.length_eq ▸ hs.length_le

/-- The records that stay keep their order. -/
theorem pairwise {R : BurstRecord → BurstRecord → Prop} (h : QueueFollows now q q') (hq : q.Pairwise R)
    (hR : ∀ r r' x x', r.Follows now r' → x.Follows now x' → R r x → R r' x') : q'.Pairwise R := by
  induction h with
  | nil => exact .nil
  | @cons r' r q' q hr h ih =>
    rw [List.pairwise_cons] at hq ⊢
    refine ⟨fun x' hx' => ?_, ih hq.2⟩
    obtain ⟨x, hx, hf⟩ := QueueFollows.exists_of_mem h hx'
    exact hR _ _ _ _ hr hf (hq.1 x hx)
  | cons_right h ih => exact ih (List.pairwise_cons.1 hq).2

theorem eq_nil (h : QueueFollows now q q') (hq : q = []) : q' = [] :=
  List.length_eq_zero_iff.1 (Nat.le_zero.1 (by simpa [hq] using h.length_le))

theorem any_isAccepted (h : QueueFollows now q q') (ha : q'.any (·.isAccepted) = true) :
    q.any (·.isAccepted) = true := by
  obtain ⟨r', hr', ha'⟩ := List.any_eq_true.1 ha
  obtain ⟨r, hr, hf⟩ := h.exists_of_mem hr'
  exact List.any_eq_true.2 ⟨r, hr, hf.isAccepted ha'⟩

end QueueFollows

/-- No two records of the queue share a rise (R9). -/
def Channel.RisesDistinct (ch : Channel) : Prop := (ch.queue.map (·.rise)).Nodup

theorem Channel.RisesDistinct.eq {ch : Channel} (h : ch.RisesDistinct) {r x : BurstRecord} (hr : r ∈ ch.queue)
    (hx : x ∈ ch.queue) (he : x.rise = r.rise) : x = r := List.inj_on_of_nodup_map h hx hr he

theorem Channel.RisesDistinct.follows {now : Nat} {ch ch' : Channel} (h : ch.RisesDistinct)
    (hq : QueueFollows now ch.queue ch'.queue) : ch'.RisesDistinct :=
  List.pairwise_map.2 (hq.pairwise (List.pairwise_map.1 h) fun r r' x x' hr hx hne => by rwa [hr.rise, hx.rise])

/-- The records of one rise are served once one of them is. -/
theorem Channel.RisesDistinct.served {ch : Channel} (h : ch.RisesDistinct) {r : BurstRecord} (hr : r ∈ ch.queue)
    (hs : r.served = true) : ∀ x ∈ ch.queue, x.rise = r.rise → x.served = true :=
  fun _ hx he => h.eq hr hx he ▸ hs

theorem Channel.front_mem {ch : Channel} {r : BurstRecord} (h : ch.front = some r) : r ∈ ch.queue :=
  List.mem_of_find?_eq_some h

theorem Channel.front_served {ch : Channel} {r : BurstRecord} (h : ch.front = some r) : r.served = true :=
  List.find?_some h

theorem Channel.recordAt_mem {ch : Channel} {rise : Nat} {r : BurstRecord} (h : ch.recordAt rise = some r) :
    r ∈ ch.queue := List.mem_of_find?_eq_some h

theorem Channel.recordAt_rise {ch : Channel} {rise : Nat} {r : BurstRecord} (h : ch.recordAt rise = some r) :
    r.rise = rise := by simpa using List.find?_some h

/-! ## What the Planner never touches -/

/-- The fields outside the Planner, the burst queue and the Journal are kept. -/
structure Channel.Framed (ch ch' : Channel) : Prop where
  uwg : ch'.uwg = ch.uwg
  uwgHeld : ch'.uwgHeld = ch.uwgHeld
  sg : ch'.sg = ch.sg
  sgHeld : ch'.sgHeld = ch.sgHeld
  delayLine : ch'.delayLine = ch.delayLine
  heads : ch'.heads = ch.heads
  nextTick : ch'.nextTick = ch.nextTick
  tickPeriod : ch'.tickPeriod = ch.tickPeriod
  ambient : ch'.ambient = ch.ambient
  ambientSet : ch'.ambientSet = ch.ambientSet
  set : ch'.set = ch.set
  injectMemory : ch'.injectMemory = ch.injectMemory
  port : ch'.port = ch.port
  image : ch'.image = ch.image

theorem Channel.Framed.refl (ch : Channel) : ch.Framed ch := by constructor <;> rfl

theorem Channel.Framed.trans {ch ch' ch'' : Channel} (h : ch.Framed ch') (h' : ch'.Framed ch'') : ch.Framed ch'' where
  uwg := h'.uwg.trans h.uwg
  uwgHeld := h'.uwgHeld.trans h.uwgHeld
  sg := h'.sg.trans h.sg
  sgHeld := h'.sgHeld.trans h.sgHeld
  delayLine := h'.delayLine.trans h.delayLine
  heads := h'.heads.trans h.heads
  nextTick := h'.nextTick.trans h.nextTick
  tickPeriod := h'.tickPeriod.trans h.tickPeriod
  ambient := h'.ambient.trans h.ambient
  ambientSet := h'.ambientSet.trans h.ambientSet
  set := h'.set.trans h.set
  injectMemory := h'.injectMemory.trans h.injectMemory
  port := h'.port.trans h.port
  image := h'.image.trans h.image

/-- A monitor lawful for a level and its settings (R100 to R107): `Channel.MonitorLaw` without its settings. -/
structure Monitor.Lawful (heated : Bool) (m : Monitor) : Prop where
  timer : m.due.isSome = heated
  cold : heated = false → m.low = 0 ∧ m.high = 0
  counts : m.low < 15 ∧ m.high < 2
  since : m.since ≤ 3

/-- The monitor follows a change of level lawfully (R101 to R103). -/
theorem Monitor.Lawful.follow {m : Monitor} {old : Level} (h : m.Lawful old.heated) (new : Level) (now period : Nat) :
    (m.follow old new now period).Lawful new.heated := by
  obtain ⟨timer, cold, counts, since⟩ := h
  unfold Monitor.follow
  cases hn : new.heated <;> cases ho : old.heated <;> rw [ho] at timer cold
  · exact ⟨timer, cold, counts, since⟩
  · exact ⟨rfl, fun _ => ⟨rfl, rfl⟩, ⟨Nat.succ_pos 14, Nat.succ_pos 1⟩, since⟩
  · exact ⟨rfl, nofun, counts, Nat.zero_le 3⟩
  · by_cases he : old = new
    · simpa [he] using ⟨timer, nofun, counts, since⟩
    · simpa [he] using ⟨timer, nofun, counts, Nat.zero_le 3⟩

/-- What an act of the Planner does to the records of a channel at an instant, and to what follows them. -/
structure Channel.Keeps (now : Nat) (ch ch' : Channel) : Prop where
  /-- No record is made, and what a record captured is kept. -/
  queue : QueueFollows now ch.queue ch'.queue
  /-- The disregard mark moves only with an emptied queue (R26). -/
  disregard : ch'.disregard = ch.disregard ∨ ch'.queue = []
  /-- The reservation stands while an ACCEPTED record does, and is released with the last one (R93). -/
  booked : ch'.res = ch.res ∧ (ch.queue.any (·.isAccepted) = true → ch'.queue.any (·.isAccepted) = true) ∨
    ch'.res = 0 ∧ ch'.queue.any (·.isAccepted) = false

theorem Channel.Keeps.trans {now : Nat} {ch ch' ch'' : Channel} (h : ch.Keeps now ch') (h' : ch'.Keeps now ch'') :
    ch.Keeps now ch'' where
  queue := h.queue.trans h'.queue
  disregard := by
    rcases h'.disregard with hd' | hd'
    · rcases h.disregard with hd | hd
      · exact .inl (hd'.trans hd)
      · exact .inr (h'.queue.eq_nil hd)
    · exact .inr hd'
  booked := by
    rcases h'.booked with ⟨hr', ha'⟩ | h''
    · rcases h.booked with ⟨hr, ha⟩ | ⟨hr, ha⟩
      · exact .inl ⟨hr'.trans hr, fun hx => ha' (ha hx)⟩
      · refine .inr ⟨hr'.trans hr, Bool.eq_false_iff.2 fun hx => ?_⟩
        rw [h'.queue.any_isAccepted hx] at ha
        cases ha
    · exact .inr h''

theorem Channel.Keeps.of_eq {now : Nat} {ch ch' : Channel} (hq : ch'.queue = ch.queue)
    (hd : ch'.disregard = ch.disregard) (hr : ch'.res = ch.res) : ch.Keeps now ch' where
  queue := hq ▸ .refl now _
  disregard := .inl hd
  booked := .inl ⟨hr, fun h => hq ▸ h⟩

/-- What an act of the Planner does to a channel at an instant. `start`: the act may raise the write gate. -/
structure Channel.Planned (now : Nat) (start : Bool) (ch ch' : Channel) : Prop extends ch.Framed ch' where
  /-- The records, which are known by their rises. -/
  keeps : ch.RisesDistinct → ch.Keeps now ch'
  /-- The Journal takes events and nothing else. -/
  posts : ch.jnl.Posts ch'.jnl
  /-- The monitor follows the level. -/
  monitor : ch.mon.Lawful ch.lvl.heated → ch'.mon.Lawful ch'.lvl.heated
  /-- DWG_c does not rise. -/
  gate : start = false → ch'.dwg = true → ch.dwg = true

namespace Channel.Planned

variable {now : Nat} {start : Bool} {ch ch' ch'' : Channel}

/-- An act that leaves the queue and the reservation. -/
theorem of_eq (hf : ch.Framed ch') (hd : ch'.disregard = ch.disregard) (hq : ch'.queue = ch.queue)
    (hr : ch'.res = ch.res) (hj : ch.jnl.Posts ch'.jnl)
    (hm : ch.mon.Lawful ch.lvl.heated → ch'.mon.Lawful ch'.lvl.heated)
    (hg : start = false → ch'.dwg = true → ch.dwg = true) : ch.Planned now start ch' where
  toFramed := hf
  keeps _ := .of_eq hq hd hr
  posts := hj
  monitor := hm
  gate := hg

theorem refl (ch : Channel) : ch.Planned now start ch :=
  .of_eq (.refl ch) rfl rfl rfl .none id fun _ => id

theorem risesDistinct (h : ch.Planned now start ch') (hd : ch.RisesDistinct) : ch'.RisesDistinct :=
  hd.follows (h.keeps hd).queue

theorem trans (h : ch.Planned now start ch') (h' : ch'.Planned now start ch'') : ch.Planned now start ch'' where
  toFramed := h.toFramed.trans h'.toFramed
  keeps hd := (h.keeps hd).trans (h'.keeps (h.risesDistinct hd))
  posts := h.posts.trans h'.posts
  monitor hm := h'.monitor (h.monitor hm)
  gate hs hg := h.gate hs (h'.gate hs hg)

end Channel.Planned

namespace Channel

variable {now : Nat} {start : Bool}

/-! ## The operations of the Planner -/

/-- A placement of the plan (R28); only an entry at the level WRITE raises the write gate (R19). -/
theorem place_planned (p : PlanState) (l : Level) (trim : Int) (ch : Channel) (h : start = false → l ≠ .write) :
    ch.Planned now start (ch.place now p l trim) := by
  refine .of_eq (by constructor <;> simp) (by simp) (by simp) (by simp) (by simpa using .none) ?_ ?_
  · simpa using fun hm => hm.follow l now ch.set.monPeriod
  · intro hs hg
    exact absurd (by simpa using hg) (h hs)

theorem restLevel_ne_write (ch : Channel) : ch.restLevel ≠ .write := by
  unfold Channel.restLevel; split <;> decide

theorem wedgeLevel_eq (fromRest : Bool) (ch : Channel) :
    ch.wedgeLevel fromRest = .bias ∨ ch.wedgeLevel fromRest = .off := by
  unfold Channel.wedgeLevel
  split
  · exact .inr rfl
  · split
    · exact .inr rfl
    · exact .inl rfl

theorem servedLevel_ne_write {p : PlanState} (hp : p ≠ .write) (r : BurstRecord) : servedLevel p r ≠ .write := by
  unfold servedLevel
  split
  · split <;> decide
  · split <;> decide
  · exact absurd rfl hp
  · decide
  all_goals decide

theorem enterRest_planned (ch : Channel) : ch.Planned now start (ch.enterRest now) :=
  ch.place_planned _ _ _ fun _ => ch.restLevel_ne_write

theorem enterLead_planned (ch : Channel) : ch.Planned now start (ch.enterLead now) :=
  ch.place_planned _ _ _ fun _ => by decide

theorem enterFade_planned (r : BurstRecord) (ch : Channel) : ch.Planned now start (ch.enterFade now r) :=
  ch.place_planned _ _ _ fun _ => servedLevel_ne_write (by decide) r

theorem enterWedge_planned (fromRest : Bool) (ch : Channel) : ch.Planned now start (ch.enterWedge now fromRest) :=
  ch.place_planned _ _ _ fun _ => by rcases ch.wedgeLevel_eq fromRest with h | h <;> rw [h] <;> decide

theorem post_planned (k : EventKind) (head detail : Byte) (ch : Channel) :
    ch.Planned now start (ch.post k head detail) :=
  .of_eq (by constructor <;> simp) (by simp) (by simp) (by simp) (.one _ _ _ _) (by simp) (by simp)

theorem reportLimit_planned (r : BurstRecord) (ch : Channel) : ch.Planned now start (ch.reportLimit r) := by
  unfold Channel.reportLimit
  split
  · exact ch.post_planned _ _ _
  · exact .refl ch

theorem reportShortWarm_planned (delay : Nat) (r : BurstRecord) (ch : Channel) :
    ch.Planned now start (ch.reportShortWarm now delay r) := by
  unfold Channel.reportShortWarm
  split
  · exact ch.post_planned _ _ _
  · exact .refl ch

theorem enterFresh_planned {p : PlanState} (r : BurstRecord) (ch : Channel) (hp : start = false → p ≠ .write) :
    ch.Planned now start (ch.enterFresh now p r) :=
  (ch.reportLimit_planned r).trans (place_planned _ _ _ _ fun hs => servedLevel_ne_write (hp hs) r)

theorem enterKept_planned {p : PlanState} (r : BurstRecord) (ch : Channel) (hp : start = false → p ≠ .write) :
    ch.Planned now start (ch.enterKept now p r) :=
  place_planned _ _ _ _ fun hs => servedLevel_ne_write (hp hs) r

theorem handOver_planned {p : PlanState} (old r : BurstRecord) (ch : Channel) (hp : start = false → p ≠ .write) :
    ch.Planned now start (ch.handOver now p old r) := by
  unfold Channel.handOver
  split
  · exact ch.enterFresh_planned r hp
  · exact ch.enterKept_planned r hp

theorem placeAfter_planned (delay : Nat) (old : BurstRecord) (ch : Channel) :
    ch.Planned now start (ch.placeAfter now delay old) := by
  unfold Channel.placeAfter
  split
  · exact ch.enterRest_planned
  · split
    · exact ch.handOver_planned _ _ fun _ => by decide
    · exact ch.enterLead_planned

theorem reaim_planned (delay : Nat) (ch : Channel) : ch.Planned now start (ch.reaim now delay) := by
  unfold Channel.reaim
  split
  · exact ch.enterRest_planned
  · split
    · split
      · exact ch.enterKept_planned _ fun _ => by decide
      · exact (ch.reportShortWarm_planned delay _).trans (enterFresh_planned _ _ fun _ => by decide)
    · exact ch.enterLead_planned

theorem afterCut_planned (delay : Nat) (ch : Channel) : ch.Planned now start (ch.afterCut now delay) := by
  unfold Channel.afterCut
  split
  · exact ch.reaim_planned delay
  · exact .refl ch

theorem enterService_planned (ch : Channel) : ch.Planned now start (ch.enterService now) := by
  unfold Channel.enterService
  split
  · split
    · exact ch.enterWedge_planned true
    · exact ch.enterLead_planned
  · exact .refl ch

theorem refreshRest_planned (ch : Channel) : ch.Planned now start (ch.refreshRest now) := by
  unfold Channel.refreshRest
  split
  · refine .of_eq (by constructor <;> simp) (by simp) (by simp) (by simp) (by simpa using .none) ?_ (by simp)
    simpa using fun hm => hm.follow _ now ch.set.monPeriod
  · exact .refl ch

theorem drift_planned (ch : Channel) : ch.Planned now start ch.drift :=
  .of_eq (by constructor <;> simp) (by simp) (by simp) (by simp) ch.drift_posts (by simp) (by simp)

/-- The marks of an expiry, and the tail end, are no part of what a record captured. -/
theorem updRecord_planned {rise : Nat} {f : BurstRecord → BurstRecord} (ch : Channel)
    (hf : ∀ r : BurstRecord, r.Follows now (f r)) (ho : ∀ r, (f r).outcome = r.outcome) :
    ch.Planned now start (ch.updRecord rise f) where
  toFramed := by constructor <;> simp
  keeps _ :=
    { queue := .of_map fun r _ => by split; exacts [hf r, .refl now r]
      disregard := .inl rfl
      booked := by
        refine .inl ⟨rfl, fun h => ?_⟩
        obtain ⟨r, hr, ha⟩ := List.any_eq_true.1 h
        simp only [updRecord_fields, List.any_map, List.any_eq_true]
        refine ⟨r, hr, ?_⟩
        show BurstRecord.isAccepted (if r.rise = rise then f r else r) = true
        split
        · exact BurstRecord.isAccepted_congr (ho r) ▸ ha
        · exact ha }
  posts := .none
  monitor := id
  gate _ := id

/-- What the release of R93 leaves of the reservation. -/
theorem releaseIfQuiet_res (ch : Channel) :
    ch.releaseIfQuiet.res = if ch.queue.any (·.isAccepted) then ch.res else 0 := by
  unfold Channel.releaseIfQuiet; split <;> simp [*]

/-- The release of R93 after an act that leaves the reservation. -/
theorem releaseIfQuiet_keeps {ch ch' : Channel} (hq : QueueFollows now ch.queue ch'.queue)
    (hd : ch'.disregard = ch.disregard) (hr : ch'.res = ch.res) : ch.Keeps now ch'.releaseIfQuiet where
  queue := by simpa using hq
  disregard := .inl (by simpa using hd)
  booked := by
    rw [releaseIfQuiet_res]
    cases h : ch'.queue.any (·.isAccepted) <;> simp [h, hr]

theorem leave_planned (r : BurstRecord) (ch : Channel) : ch.Planned now start (ch.leave r) where
  toFramed := by constructor <;> simp
  keeps _ := releaseIfQuiet_keeps (.of_filter now _ _) rfl rfl
  posts := by simpa using .none
  monitor := by simp
  gate := by simp

/-- A truncation of a served record of the queue (R21). -/
theorem truncate_planned (why : CutReason) {r r' : BurstRecord} {ch : Channel} (hr : r' ∈ ch.queue)
    (he : r'.rise = r.rise) (hs : r'.served = true) : ch.Planned now start (ch.truncate now why r) where
  toFramed := by constructor <;> simp
  keeps hd := by
    refine releaseIfQuiet_keeps (.of_map fun x hx => ?_) rfl rfl
    split
    · next hx' =>
      exact ⟨rfl, rfl, rfl, rfl, rfl, rfl, rfl, .inr ⟨hd.eq hr hx (hx'.trans he.symm) ▸ hs, .inl ⟨why, rfl⟩⟩⟩
    · exact .refl now x
  posts := ch.truncate_posts now why r
  monitor := by simp
  gate := by simp +contextual [Channel.truncate]

theorem truncateWriting_planned (why : CutReason) (ch : Channel) :
    ch.Planned now start (ch.truncateWriting now why) := by
  unfold Channel.truncateWriting
  split
  · split
    · next r hf => exact truncate_planned why (front_mem hf) rfl (front_served hf)
    · exact .refl ch
  · exact .refl ch

/-- The reasons for which live records become REFUSED: an entry into FAULT or HALTED (R23). -/
theorem refuse_follows {why : RefuseReason} (hw : why = .faulted ∨ why = .halted) (r : BurstRecord) :
    r.Follows now (r.refuse why) := by
  unfold BurstRecord.refuse
  split
  · next hs => exact ⟨rfl, rfl, rfl, rfl, rfl, rfl, rfl, .inr ⟨hs, .inr (by simpa using hw)⟩⟩
  · exact .refl now r

/-- After the refusal of every record none is served (R23). -/
theorem refuseAll_any_served (why : RefuseReason) (ch : Channel) : (ch.refuseAll why).queue.any (·.served) = false := by
  rw [List.any_eq_false]
  intro r hr
  obtain ⟨x, -, rfl⟩ := List.mem_map.1 (List.mem_of_mem_filter hr)
  simp [BurstRecord.refuse_not_served]

theorem any_isAccepted_of_any_served {q : List BurstRecord} (h : q.any (·.served) = false) :
    q.any (·.isAccepted) = false := by
  rw [List.any_eq_false] at h ⊢
  exact fun r hr ha => h r hr (BurstRecord.served_of_isAccepted ha)

/-- An entry into FAULT or HALTED (R23, R49, R51). -/
theorem shutDown_planned {p : PlanState} {cut : CutReason} {why : RefuseReason} (ch : Channel)
    (hw : why = .faulted ∨ why = .halted) : ch.Planned now start (ch.shutDown now p cut why) := by
  have ht : ch.Planned now start (ch.truncateWriting now cut) := ch.truncateWriting_planned cut
  refine ht.trans ⟨by constructor <;> simp [Channel.shutDown], fun _ => ?_, ?_, ?_, ?_⟩
  · refine ⟨?_, .inl (by simp [Channel.shutDown]), .inr ⟨rfl, ?_⟩⟩
    · exact (QueueFollows.of_map fun r _ => refuse_follows hw r).trans (.of_filter now _ _)
    · exact any_isAccepted_of_any_served (refuseAll_any_served why _)
  · exact Channel.refuseAll_posts why _
  · simpa [Channel.shutDown] using fun hm => hm.follow .off now ch.set.monPeriod
  · simp [Channel.shutDown]

theorem enterHalted_planned (ch : Channel) : ch.Planned now start (ch.enterHalted now) := by
  unfold Channel.enterHalted
  split
  · exact .refl ch
  · exact ch.shutDown_planned (.inr rfl)

theorem enterFault_planned (k : EventKind) (ch : Channel) : ch.Planned now start (ch.enterFault now k) := by
  unfold Channel.enterFault
  split
  · exact .refl ch
  · exact (ch.post_planned _ _ _).trans (shutDown_planned _ (.inl rfl))

/-! ## The commands of the Planner -/

theorem servoUp_planned (ch : Channel) : ch.Planned now start (ch.servoUp now) := by
  unfold Channel.servoUp
  split
  · exact (ch.truncateWriting_planned .servo).trans (enterWedge_planned _ _)
  · exact ch.enterWedge_planned _
  · exact ch.enterWedge_planned _
  · split
    · exact (ch.leave_planned _).trans (enterWedge_planned _ _)
    · exact ch.enterWedge_planned _
  · exact ch.enterWedge_planned _
  all_goals exact .refl ch

theorem servoDown_planned (delay : Nat) (ch : Channel) : ch.Planned now start (ch.servoDown now delay) := by
  unfold Channel.servoDown
  split
  · exact ch.reaim_planned delay
  · exact .refl ch

theorem warmExpiry_planned (r : BurstRecord) (ch : Channel) : ch.Planned now start (ch.warmExpiry now r) := by
  unfold Channel.warmExpiry
  split
  · exact ch.enterFresh_planned r fun _ => by decide
  · split
    · split
      · exact (ch.leave_planned _).trans (handOver_planned _ _ _ fun _ => by decide)
      · exact .refl ch
    · exact .refl ch

theorem mark_planned {f : BurstRecord → BurstRecord} (rise : Nat) (ch : Channel)
    (hf : ∀ r, ∃ w v e t, f r = { r with warmTaken := w, startTaken := v, endTaken := e, tailEnd := t }) :
    ch.Planned now start (ch.updRecord rise f) := by
  refine ch.updRecord_planned (fun r => ?_) fun r => ?_ <;> obtain ⟨w, v, e, t, h⟩ := hf r <;> rw [h]
  exact ⟨rfl, rfl, rfl, rfl, rfl, rfl, rfl, .inl rfl⟩

theorem updRecord_rises {rise : Nat} {f : BurstRecord → BurstRecord} (ch : Channel) (hf : ∀ r, (f r).rise = r.rise) :
    (ch.updRecord rise f).queue.map (·.rise) = ch.queue.map (·.rise) := by
  rw [(ch.updRecord_fields rise f).1, List.map_map]
  refine List.map_congr_left fun r _ => ?_
  show BurstRecord.rise (if r.rise = rise then f r else r) = r.rise
  split
  · exact hf r
  · rfl

theorem mem_updRecord {rise : Nat} {f : BurstRecord → BurstRecord} {r : BurstRecord} {ch : Channel}
    (hr : r ∈ ch.queue) (he : r.rise = rise) : f r ∈ (ch.updRecord rise f).queue :=
  List.mem_map.2 ⟨r, hr, if_pos he⟩

theorem takeWarmStart_planned (r : BurstRecord) (ch : Channel) : ch.Planned now start (ch.takeWarmStart now r) := by
  have hm : ch.Planned now start (ch.updRecord r.rise fun x => { x with warmTaken := true }) :=
    ch.mark_planned _ fun r => ⟨_, _, _, _, rfl⟩
  unfold Channel.takeWarmStart
  dsimp only
  split
  · exact hm.trans (warmExpiry_planned r _)
  · exact hm

/-- The write start of a record alone may raise the write gate (R19). -/
theorem startWriting_planned (r : BurstRecord) (ch : Channel) : ch.Planned now true (ch.startWriting now r) := by
  unfold Channel.startWriting
  split
  · exact ch.place_planned _ _ _ nofun
  · split
    · exact ch.enterFresh_planned r nofun
    · split
      · split
        · exact (ch.leave_planned _).trans (handOver_planned _ _ _ nofun)
        · exact .refl ch
      · exact .refl ch

theorem takeWriteStart_planned {r : BurstRecord} {ch : Channel} (hr : r ∈ ch.queue) :
    ch.Planned now true (ch.takeWriteStart now r) := by
  have hm : ch.Planned now true (ch.updRecord r.rise fun x => { x with startTaken := true }) :=
    ch.mark_planned _ fun r => ⟨_, _, _, _, rfl⟩
  unfold Channel.takeWriteStart
  dsimp only
  split
  · next hs =>
    split
    · exact hm.trans (truncate_planned .servo (mem_updRecord hr rfl) rfl hs)
    · exact hm.trans (startWriting_planned r _)
  · exact hm

theorem finishWrite_planned (delay : Nat) (r : BurstRecord) (ch : Channel) :
    ch.Planned now start (ch.finishWrite now delay r) := by
  unfold Channel.finishWrite
  dsimp only
  split
  · exact (ch.leave_planned r).trans (placeAfter_planned delay r _)
  · exact (ch.mark_planned _ fun r => ⟨_, _, _, _, rfl⟩).trans (enterFade_planned r _)

theorem takeWriteEnd_planned (delay : Nat) (r : BurstRecord) (ch : Channel) :
    ch.Planned now start (ch.takeWriteEnd now delay r) := by
  have hm : ch.Planned now start (ch.updRecord r.rise fun x => { x with endTaken := true }) :=
    ch.mark_planned _ fun r => ⟨_, _, _, _, rfl⟩
  unfold Channel.takeWriteEnd
  dsimp only
  split
  · split
    · exact hm.trans (finishWrite_planned delay r _)
    · exact hm
  · exact hm.trans (leave_planned r _)

theorem tailEnd_planned (delay : Nat) (r : BurstRecord) (ch : Channel) :
    ch.Planned now start ((ch.leave r).placeAfter now delay r) :=
  (ch.leave_planned r).trans (placeAfter_planned delay r _)

/-- The fall of a stalled record and the disregard mark, before the record is truncated (R24). -/
def cutMark (now : Nat) (r : BurstRecord) (ch : Channel) : Channel :=
  { ch.updRecord r.rise (·.setFall now) with disregard := true }

theorem cut_eq (delay : Nat) (r : BurstRecord) (ch : Channel) :
    ch.cut now delay r =
      if r.served then
        if r.isThe ch.front then ((ch.cutMark now r).truncate now .stall r).afterCut now delay
        else (ch.cutMark now r).truncate now .stall r
      else ch.cutMark now r := rfl

theorem cut_planned (delay : Nat) {r : BurstRecord} {ch : Channel} (hr : r ∈ ch.queue) :
    (ch.cutMark now r).Planned now start (ch.cut now delay r) := by
  rw [cut_eq]
  split
  · next hs =>
    have ht : (ch.cutMark now r).Planned now start ((ch.cutMark now r).truncate now .stall r) :=
      truncate_planned .stall (r' := r.setFall now) (mem_updRecord hr rfl) rfl hs
    split
    · exact ht.trans (afterCut_planned delay _)
    · exact ht
  · exact .refl _

/-! ## The acts of the command register and of the monitor -/

/-- Counts and arm that are cleared stay lawful (R54, R55). -/
theorem monitor_cleared {heated : Bool} {m : Monitor} (armed : Bool) (h : m.Lawful heated) :
    ({ m with low := 0, high := 0, armed := armed } : Monitor).Lawful heated :=
  ⟨h.timer, fun _ => ⟨rfl, rfl⟩, ⟨Nat.succ_pos 14, Nat.succ_pos 1⟩, h.since⟩

theorem clearFault_planned (ch : Channel) : ch.Planned now start (ch.clearFault now) := by
  unfold Channel.clearFault
  split
  · refine ch.enterRest_planned.trans (.of_eq (by constructor <;> simp) (by simp) (by simp) (by simp) (.one _ _ _ _) ?_
      (by simp))
    exact monitor_cleared _
  · exact .refl ch

theorem restart_planned (ch : Channel) : ch.Planned now start (ch.restart now) := by
  unfold Channel.restart
  split
  · exact .refl ch
  · have h : ch.Planned now start _ := ch.truncateWriting_planned .restart
    refine (h.trans (ch'' := Channel.post .restarted noHeadCode 0
      { Channel.enterRest now { ch.truncateWriting now .restart with queue := [] } with
        mon := { (Channel.enterRest now { ch.truncateWriting now .restart with queue := [] }).mon with
          low := 0, high := 0, armed := false }
        res := 0
        wu := false
        disregard := (Channel.enterRest now { ch.truncateWriting now .restart with queue := [] }).disregard ||
          (Channel.enterRest now { ch.truncateWriting now .restart with queue := [] }).uwg })
      ⟨by constructor <;> simp, fun _ => ⟨.nil now _, .inr (by simp), .inr (by simp)⟩, .one _ _ _ _, ?_, ?_⟩).trans ?_
    · exact fun hm => monitor_cleared _ (hm.follow _ now _)
    · intro _ hg
      exact absurd (by simpa [Channel.enterRest] using hg) (Channel.restLevel_ne_write _)
    · dsimp only
      split
      · exact enterHalted_planned _
      · exact .refl _

end Channel

end Sys2Proof.Machine
end

section
/-! SUPPORT. The commands of a channel that are no act of the Planner alone: a rise, a fall, a cut, a tick, a sample, a
frame. Each is a small change followed by an act of the Planner. -/

namespace Sys2Proof.Machine

/-! ## The gate filters (R1 to R3) -/

theorem filterReady_iff {held : Nat} : filterReady held = true ↔ 2 ≤ held := decide_eq_true_iff

theorem riseTaken_iff {ch : Channel} : riseTaken ch = true ↔ ch.uwg = false ∧ 2 ≤ ch.uwgHeld := by
  simp only [riseTaken, Bool.and_eq_true, Bool.not_eq_true', filterReady_iff]

theorem fallTaken_iff {ch : Channel} : fallTaken ch = true ↔ ch.uwg = true ∧ 2 ≤ ch.uwgHeld := by
  simp only [fallTaken, Bool.and_eq_true, filterReady_iff]

theorem servoRiseTaken_iff {ch : Channel} : servoRiseTaken ch = true ↔ ch.sg = false ∧ 2 ≤ ch.sgHeld := by
  simp only [servoRiseTaken, Bool.and_eq_true, Bool.not_eq_true', filterReady_iff]

theorem servoFallTaken_iff {ch : Channel} : servoFallTaken ch = true ↔ ch.sg = true ∧ 2 ≤ ch.sgHeld := by
  simp only [servoFallTaken, Bool.and_eq_true, filterReady_iff]

theorem Channel.markWaits_iff {ch : Channel} :
    ch.markWaits = true ↔ ch.disregard = true ∧ ch.uwg = false ∧ ch.uwgHeld < 2 := by
  simp only [Channel.markWaits, Channel.markFromReset, Bool.and_eq_true, Bool.not_eq_true', and_assoc,
    ← Bool.not_eq_true, filterReady_iff, not_le]

/-! ## Rises (R14 to R17) -/

namespace Channel

/-- The filtered gate after a rise is taken (R1). -/
def risen (ch : Channel) : Channel := { ch with uwg := true, uwgHeld := 0 }

/-- The record of an accepted rise: its lead and, in NORMAL, its ceiling (R15). -/
def servedRecord (now delay : Nat) (avail : Int) (ch : Channel) : BurstRecord :=
  { ch.newRecord now (if ch.set.mode = .normal then .accepted else .shadow) with
    lead := some (ch.leadFor delay ch.shadowHead)
    ceiling := if ch.set.mode = .normal then some (ch.riseCeiling avail) else none }

/-- The reservation after an accepted rise (R92). -/
def risenRes (avail : Int) (ch : Channel) : Nat :=
  if ch.set.mode = .normal then
    raisedReservation ch.res (ch.maxbase ch.shadowHead ch.set.band) (ch.riseCeiling avail)
  else ch.res

/-- The channel with the record of an accepted rise, before the Planner looks at its state (R15). -/
def booked (now delay : Nat) (avail : Int) (ch : Channel) : Channel :=
  { ch with queue := ch.queue ++ [ch.servedRecord now delay avail], res := ch.risenRes avail, wu := false }

theorem accept_eq (now delay : Nat) (avail : Int) (ch : Channel) :
    ch.accept now delay avail = (ch.booked now delay avail).enterService now := by
  unfold Channel.accept Channel.booked Channel.servedRecord Channel.risenRes
  split
  · rfl
  · rfl

/-- The channel with the record of a refused rise (R16). -/
def refusedRise (now : Nat) (why : RefuseReason) (ch : Channel) : Channel :=
  { ch.postRefusal why with queue := ch.queue ++ [ch.newRecord now (.refused why)] }

/-- All that a rise can do (R2, R14 to R17). -/
theorem takeRise_cases (now delay : Nat) (held : Bool) (avail : Int) (ch : Channel) :
    ch.disregard = true ∧ ch.takeRise now delay held avail = ch.risen ∨
    ch.disregard = false ∧
      (4 ≤ ch.queue.length ∧ ch.takeRise now delay held avail =
          { ch.risen.postRefusal .queueFull with disregard := true } ∨
        ch.queue.length < 4 ∧ (∃ why, ch.risen.refusal held avail = some why ∧
          ch.takeRise now delay held avail = ch.risen.refusedRise now why) ∨
        ch.queue.length < 4 ∧ ch.risen.refusal held avail = none ∧
          ch.takeRise now delay held avail = (ch.risen.booked now delay avail).enterService now) := by
  have he : ch.takeRise now delay held avail =
      if ch.disregard then ch.risen else ch.risen.judge now delay held avail := rfl
  rw [he]
  cases hd : ch.disregard with
  | true => exact .inl ⟨rfl, rfl⟩
  | false =>
    refine .inr ⟨rfl, ?_⟩
    rw [if_neg Bool.false_ne_true]
    unfold Channel.judge Config.queueDepth
    rcases Nat.lt_or_ge ch.queue.length 4 with hl | hl
    · rw [if_neg (by simpa [Channel.risen] using hl)]
      cases hw : ch.risen.refusal held avail with
      | some why => exact .inr (.inl ⟨hl, why, rfl, rfl⟩)
      | none => exact .inr (.inr ⟨hl, rfl, accept_eq _ _ _ _⟩)
    · rw [if_pos (by simpa [Channel.risen] using hl)]
      exact .inl ⟨hl, rfl⟩

/-! ## Falls -/

/-- Only the newest record can have its fall outstanding, so the fall is its own (R10). -/
theorem setNewestFall_eq_map (now : Nat) (q : List BurstRecord)
    (h : q.Pairwise fun r _ => r.fall.isSome ∧ r.stall = none) :
    setNewestFall now q = q.map (·.setFall now) := by
  induction q with
  | nil => rfl
  | cons r q ih =>
    cases q with
    | nil => rfl
    | cons x q =>
      obtain ⟨hr, hq⟩ := List.pairwise_cons.1 h
      obtain ⟨hf, hs⟩ := hr x (List.mem_cons_self ..)
      have hfix : r.setFall now = r := by
        obtain ⟨f, hf⟩ := Option.isSome_iff_exists.1 hf
        cases r
        simp_all [BurstRecord.setFall]
      rw [List.map_cons, hfix, ← ih hq]
      rfl

end Channel

/-! ## What a frame can change -/

/-- The fields outside the tables, the port, the level image, the Journal and the ambient reading are kept. -/
structure Channel.Touched (ch ch' : Channel) : Prop where
  uwg : ch'.uwg = ch.uwg
  uwgHeld : ch'.uwgHeld = ch.uwgHeld
  sg : ch'.sg = ch.sg
  sgHeld : ch'.sgHeld = ch.sgHeld
  disregard : ch'.disregard = ch.disregard
  queue : ch'.queue = ch.queue
  dwg : ch'.dwg = ch.dwg
  delayLine : ch'.delayLine = ch.delayLine
  plan : ch'.plan = ch.plan
  lvl : ch'.lvl = ch.lvl
  heldTrim : ch'.heldTrim = ch.heldTrim
  res : ch'.res = ch.res
  heats : ch'.heads.map (·.heat) = ch.heads.map (·.heat)
  tallies : ch'.heads.map (·.tally) = ch.heads.map (·.tally)
  nextTick : ch'.nextTick = ch.nextTick
  tickPeriod : ch'.tickPeriod = ch.tickPeriod
  /-- The monitor's counts and timer stand; its inject arm may move. -/
  monitor : { ch'.mon with armed := ch.mon.armed } = ch.mon

/-- The fields outside the tables, the port, the level image and the Journal are kept. -/
structure Channel.Dressed (ch ch' : Channel) : Prop extends ch.Touched ch' where
  ambient : ch'.ambient = ch.ambient
  ambientSet : ch'.ambientSet = ch.ambientSet

/-- Writing head entries leaves heats and tallies (R116). -/
theorem writeHeads_map {α : Type} (g : Head → α) (hg : ∀ (h : Head) (e : HeadEntry), g { h with cal := e } = g h)
    (sel : Option Nibble) (f : HeadEntry → HeadEntry) (heads : List Head) :
    (writeHeads sel f heads).map g = heads.map g := by
  unfold writeHeads
  split
  · split
    · simp [hg]
    · refine List.ext_getElem? fun i => ?_
      simp only [List.getElem?_map, List.getElem?_modify]
      split
      · cases heads[i]? <;> simp [hg]
      · simp
  · rfl

namespace Channel

theorem Dressed.refl (ch : Channel) : ch.Dressed ch :=
  ⟨by constructor <;> rfl, rfl, rfl⟩

theorem freePort_dressed (ch : Channel) : ch.Dressed ch.freePort := ⟨by constructor <;> rfl, rfl, rfl⟩

theorem startJob_dressed (now : Nat) (w : PortWork) (ch : Channel) : ch.Dressed (ch.startJob now w) :=
  ⟨by constructor <;> rfl, rfl, rfl⟩

theorem setPage_dressed (p : Nibble) (ch : Channel) : ch.Dressed (ch.setPage p) :=
  ⟨by constructor <;> rfl, rfl, rfl⟩

theorem imageWrite_dressed (addr : Addr) (data : Byte) (ch : Channel) : ch.Dressed (ch.imageWrite addr data) :=
  ⟨by constructor <;> rfl, rfl, rfl⟩

theorem startLearning_dressed (now : Nat) (ch : Channel) : ch.Dressed (ch.startLearning now) :=
  ⟨by constructor <;> rfl, rfl, rfl⟩

theorem startUpkeep_dressed (now : Nat) (ch : Channel) : ch.Dressed (ch.startUpkeep now) := by
  unfold Channel.startUpkeep
  split
  · exact ch.startJob_dressed now _
  · exact .refl ch

theorem startRecord_dressed (now : Nat) (page : Nibble) (ch : Channel) : ch.Dressed (ch.startRecord now page) := by
  unfold Channel.startRecord
  split
  · exact ⟨by constructor <;> rfl, rfl, rfl⟩
  · exact .refl ch

theorem startSummary_dressed (now : Nat) (page : Nibble) (ch : Channel) : ch.Dressed (ch.startSummary now page) :=
  ch.startJob_dressed now _

theorem advance_dressed (now : Nat) (o : SeqOwner) (rest : List InsertedFrame) (ch : Channel) :
    ch.Dressed (ch.advance now o rest) :=
  ⟨by constructor <;> simp, by simp, by simp⟩

theorem inject_dressed (bit : Bool) (ch : Channel) : ch.Dressed (ch.inject bit) :=
  ⟨by constructor <;> rfl, rfl, rfl⟩

/-- The head entries as a write directs them, before the level follows (R116). -/
def entriesWritten (f : HeadEntry → HeadEntry) (ch : Channel) : Channel :=
  { ch with heads := writeHeads ch.port.headSel f ch.heads }

theorem entriesWritten_dressed (f : HeadEntry → HeadEntry) (ch : Channel) : ch.Dressed (ch.entriesWritten f)  where
  toTouched := by constructor <;> first | rfl | exact writeHeads_map _ (fun _ _ => rfl) _ _ _
  ambient := rfl
  ambientSet := rfl

/-- The head select shadow as a frame sets it, before the level follows (R138). -/
def headSelSet (n : Nibble) (ch : Channel) : Channel := { ch with port := { ch.port with headSel := some n } }

theorem headSelSet_dressed (n : Nibble) (ch : Channel) : ch.Dressed (ch.headSelSet n) :=
  ⟨by constructor <;> rfl, rfl, rfl⟩

/-- What a preamplifier reset does to the shadows, the image and the Journal, before the level follows (R145). -/
def preampCleared (ch : Channel) : Channel :=
  { ch with
    port := { ch.port with page := some 0, headSel := some 0 }
    image := ⟨some 0, some 0, some 0⟩
    jnl := ch.jnl.preampReset }

theorem preampCleared_dressed (ch : Channel) : ch.Dressed ch.preampCleared :=
  ⟨by constructor <;> rfl, rfl, rfl⟩

end Channel

/-- What a completed write changes in the tables, the port, the image and the Journal, before the Planner acts on it. -/
def WriteKind.dress : WriteKind → Addr → Byte → Channel → Channel
  | .pageSelect, _, data => Channel.setPage (lowNibble data)
  | .headSelect, _, data => Channel.headSelSet (lowNibble data)
  | .preampReset, _, _ => Channel.preampCleared
  | .levelRegister, addr, data => Channel.imageWrite addr data
  | .headField, addr, data => Channel.entriesWritten (HeadEntry.writeByte addr data)
  | .lowByte, addr, data => Channel.entriesWritten (HeadEntry.writeLow addr data)
  | .highByte, addr, data => Channel.entriesWritten (HeadEntry.writeHigh addr data)
  | .bandSelect, _, data => Channel.setFields fun f => { f with band := data.setWidth 3 }
  | .modeNormal, _, _ => Channel.setFields fun f => { f with mode := .normal }
  | .modeShadow, _, _ => Channel.setFields fun f => { f with mode := .shadow }
  | .modeHalt, _, _ => Channel.setFields fun f => { f with mode := .halt }
  | .heatSetting, addr, data => Channel.setFields (ChannelFields.writeHeat addr data)
  | .monitorRegister, _, data => Channel.setFields (ChannelFields.writeMonitor data)
  | .stallLimit, _, data => Channel.setFields fun f => { f with stallLimit := stallLimitOf data }
  | .wedgeLevel, _, data => Channel.setFields fun f => { f with wedge := if data.getLsbD 0 then .off else .bias }
  | .inject, _, data => Channel.inject (data.getLsbD 0)
  | .faultClear, _, _ | .channelRestart, _, _ | .other, _, _ => fun ch => ch

/-- What the Planner does at a completed write, once the tables have it. -/
def WriteKind.plan (now : Nat) : WriteKind → Channel → Channel
  | .headSelect | .preampReset | .headField | .lowByte | .highByte | .bandSelect => Channel.refreshRest now
  | .modeNormal | .modeShadow => fun ch => if ch.plan = .halted then ch.enterRest now else ch.refreshRest now
  | .modeHalt => Channel.enterHalted now
  | .faultClear => Channel.clearFault now
  | .channelRestart => Channel.restart now
  | .pageSelect | .levelRegister | .heatSetting | .monitorRegister | .stallLimit | .wedgeLevel | .inject | .other =>
    fun ch => ch

/-- A completed write is a change of the tables and an act of the Planner. -/
theorem WriteKind.effect_eq (k : WriteKind) (now : Nat) (addr : Addr) (data : Byte) (ch : Channel) :
    k.effect now addr data ch = k.plan now (k.dress addr data ch) := by cases k <;> rfl

theorem WriteKind.dress_dressed (k : WriteKind) (addr : Addr) (data : Byte) (ch : Channel) :
    ch.Dressed (k.dress addr data ch) := by
  cases k with
  | pageSelect => exact ch.setPage_dressed _
  | headSelect => exact ch.headSelSet_dressed _
  | preampReset => exact ch.preampCleared_dressed
  | levelRegister => exact ch.imageWrite_dressed _ _
  | headField | lowByte | highByte => exact ch.entriesWritten_dressed _
  | inject => exact ch.inject_dressed _
  | faultClear | channelRestart | other => exact .refl ch
  | bandSelect | modeNormal | modeShadow | modeHalt | heatSetting | monitorRegister | stallLimit | wedgeLevel =>
    exact ⟨by constructor <;> rfl, rfl, rfl⟩

theorem WriteKind.plan_planned {now : Nat} {start : Bool} (k : WriteKind) (ch : Channel) :
    ch.Planned now start (k.plan now ch) := by
  cases k with
  | headSelect | preampReset | headField | lowByte | highByte | bandSelect => exact ch.refreshRest_planned
  | modeNormal | modeShadow =>
    show ch.Planned now start (if ch.plan = .halted then ch.enterRest now else ch.refreshRest now)
    split
    · exact ch.enterRest_planned
    · exact ch.refreshRest_planned
  | modeHalt => exact ch.enterHalted_planned
  | faultClear => exact ch.clearFault_planned
  | channelRestart => exact ch.restart_planned
  | pageSelect | levelRegister | heatSetting | monitorRegister | stallLimit | wedgeLevel | inject | other =>
    exact .refl ch

/-! ## Samples (R104 to R108) -/

theorem Monitor.low_lt_of_not_declares {m : Monitor} {nLoss : Nat} (h : m.declares .low nLoss = none) :
    m.low < nLoss := by
  by_contra hc
  simp [Monitor.declares, Nat.not_lt.1 hc] at h

theorem Monitor.high_lt_of_not_declares {m : Monitor} {nLoss : Nat} (h : m.declares .high nLoss = none) :
    m.high < 2 := by
  by_contra hc
  simp [Monitor.declares, Config.lightOverCount, Nat.not_lt.1 hc] at h

namespace Channel

/-- All that a sample can do: it keeps its counts below the values that declare, or declares. -/
theorem takeSample_cases (now : Nat) (lines : BitVec 2) (ch : Channel) :
    ∃ m : Monitor, m.due = some (now + ch.set.monPeriod) ∧ m.since ≤ 3 ∧
      (ch.takeSample now lines = { ch with mon := m } ∧
          (ch.mon.low < 15 → ch.mon.high < 2 → ch.set.nLoss ≤ 15 → m.low < 15 ∧ m.high < 2) ∨
        ∃ k, ch.takeSample now lines = Channel.enterFault now k { ch with mon := m }) := by
  unfold Channel.takeSample
  split
  · exact ⟨ch.mon.scheduled now ch.set.monPeriod, rfl, Nat.min_le_left .., .inl ⟨rfl, fun hl hh _ => ⟨hl, hh⟩⟩⟩
  · generalize (if ch.mon.armed then Reading.low else readingOf lines) = reading
    refine ⟨(({ ch.mon with armed := false } : Monitor).counted reading).scheduled now ch.set.monPeriod, rfl,
      Nat.min_le_left .., ?_⟩
    dsimp only
    split
    · next k _ => exact .inr ⟨k, rfl⟩
    · next hn =>
      refine .inl ⟨rfl, fun hl hh hN => ?_⟩
      cases reading with
      | low => exact ⟨Nat.lt_of_lt_of_le (Monitor.low_lt_of_not_declares hn) hN, Nat.succ_pos 1⟩
      | inWindow => exact ⟨Nat.succ_pos 14, Nat.succ_pos 1⟩
      | high => exact ⟨Nat.succ_pos 14, Monitor.high_lt_of_not_declares (nLoss := ch.set.nLoss) hn⟩

/-! ## Heat ticks (R60, R65) -/

/-- The heats after a tick, the tally cleared and the next interval begun, before the drift update. -/
def ticked (now : Nat) (ch : Channel) : Channel :=
  { ch with
    heads := ch.heads.map (Head.tick ch.set), tickPeriod := tickPeriodOf ch.set.prescale
    nextTick := now + tickPeriodOf ch.set.prescale }

theorem takeTick_eq (now : Nat) (ch : Channel) : ch.takeTick now = (ch.ticked now).drift := rfl

end Channel

end Sys2Proof.Machine
end

section
/-! SUPPORT. What a step leaves of a channel, over every command; and the statements over every command: the write gate
(R19), the outcome of a record (R8), the frame of the heat model, the resets. -/

namespace Sys2Proof.Machine

/-! ## Resets and upstream frames -/

/-- A command of a reset leaves a channel, holds it, or starts it (R174). -/
theorem exec_reset_ch {i : Instr} {s t : State} (hi : i.isReset = true) (h : exec i s = .next t) (c : Chan) :
    t.ch c = s.ch c ∨ (∃ n, t.ch c = Channel.held n) ∨ ∃ n now g d, t.ch c = Channel.started n now g d := by
  cases i <;> cases hi
  case powerOn.refl =>
    cases h
    cases c <;> exact .inr (.inl ⟨_, rfl⟩)
  case optionLoadComplete.refl =>
    simp only [exec, execOptionLoadComplete] at h
    split at h
    · split at h
      · split at h <;> cases h
        · cases c <;> exact .inr (.inr ⟨_, _, _, _, rfl⟩)
        · cases c <;> exact .inr (.inl ⟨_, rfl⟩)
      · cases h; exact .inl rfl
    all_goals cases h; exact .inl rfl
  case rstnFall.refl =>
    simp only [exec, execRstnFall] at h
    split at h <;> cases h
    · cases c <;> exact .inr (.inl ⟨_, rfl⟩)
    all_goals cases c <;> exact .inl rfl
  case rstnRise.refl =>
    simp only [exec, execRstnRise] at h
    split at h <;> cases h
    · cases c <;> exact .inr (.inr ⟨_, _, _, _, rfl⟩)
    · cases c <;> exact .inr (.inr ⟨_, _, _, _, rfl⟩)
    all_goals cases c <;> exact .inl rfl

/-- Only the slot, the reception and RDY are changed. -/
def State.SameBut (s t : State) : Prop := t = { s with slot := t.slot, reception := t.reception, rdy := t.rdy }

theorem State.giveUpRead_sameBut (c : Chan) (hold : ReadHold) (s : State) : s.SameBut (s.giveUpRead c hold) := by
  unfold State.giveUpRead
  split <;> rfl

/-- An upstream frame changes the relay slot, the reception and RDY at most (R131 to R135). -/
theorem exec_upstream_sameBut {i : Instr} {s t : State} (hc : i.channel = none) (hi : i.isReset = false)
    (h : exec i s = .next t) : s.SameBut t := by
  cases i <;> cases hc <;> cases hi
  case upstreamFrameStart.refl.refl =>
    simp only [exec, execUpstreamFrameStart] at h
    split at h <;> cases h <;> rfl
  case upstreamWriteEnd.refl.refl =>
    simp only [exec, execUpstreamWriteEnd, State.receiveWrite] at h
    split at h
    · split at h
      · split at h <;> cases h <;> rfl
      · cases h; rfl
    all_goals cases h; rfl
  case upstreamReadAddress.refl.refl =>
    simp only [exec, execUpstreamReadAddress, State.receiveRead] at h
    split at h
    · split at h
      · split at h <;> cases h <;> rfl
      · cases h; rfl
    all_goals cases h; rfl
  case earlyRelease.refl.refl =>
    simp only [exec, execEarlyRelease] at h
    split at h <;> cases h
    · next c _ => rw [State.SameBut, s.giveUpRead_sameBut c .released]
    all_goals rfl
  case doubleSelect.refl.refl =>
    simp only [exec, execDoubleSelect] at h
    split at h <;> cases h
    · rfl
    · next c _ => rw [State.SameBut, s.giveUpRead_sameBut c .doubled]
    all_goals rfl
  case upstreamReadEnd.refl.refl =>
    simp only [exec, execUpstreamReadEnd] at h
    split at h <;> cases h <;> rfl

theorem State.SameBut.ch {s t : State} (h : s.SameBut t) (c : Chan) : t.ch c = s.ch c := by
  rw [h]; cases c <;> rfl

/-- What a command can do to a channel: nothing, a reset, or an answer of a command of that channel. -/
theorem exec_ch {i : Instr} {s t : State} (h : exec i s = .next t) (c : Chan) :
    t.ch c = s.ch c ∨
    i.isReset = true ∧ ((∃ n, t.ch c = Channel.held n) ∨ ∃ n now g d, t.ch c = Channel.started n now g d) ∨
    i.channel = some c ∧ s.Answer c i t := by
  cases hc : i.channel with
  | none =>
    cases hi : i.isReset with
    | true => exact (exec_reset_ch hi h c).imp_right fun hr => .inl ⟨rfl, hr⟩
    | false => exact .inl ((exec_upstream_sameBut hc hi h).ch c)
  | some d =>
    have ha := exec_answer hc h
    rcases eq_or_eq_otherChan d c with rfl | rfl
    · exact .inr (.inr ⟨rfl, ha⟩)
    · exact .inl ha.ch_other

/-- In a reset a command of a channel makes no change: a change is a move of a running part, or a completion. -/
theorem exec_of_not_running {i : Instr} {c : Chan} {s : State} (hc : i.channel = some c) (h : s.phase ≠ .running) :
    exec i s = .next s := by
  obtain ⟨t, ht, ha⟩ := exec_answers s hc
  cases ha with
  | unchanged => exact ht
  | move hr => exact absurd hr h
  | frame hr => exact absurd hr h
  | write _ hw => exact absurd hw.1 h
  | read _ hr => exact absurd hr.1 h

/-! ## What the moves of a channel keep -/

/-- What a read delivers leaves all but the ambient reading and the Journal (R144). -/
theorem readEffect_touched (l : LoadedCopy) (addr : Addr) (hold : ReadHold) (byte : Byte) (ch : Channel) :
    ch.Touched (readEffect l addr hold byte ch) := by
  unfold readEffect
  split
  · exact (Channel.Dressed.refl ch).toTouched
  · constructor <;> simp

theorem Channel.takeFall_frame (now : Nat) (ch : Channel) :
    ch.takeFall now =
      { ch with uwg := false, uwgHeld := 0, disregard := false, queue := (ch.takeFall now).queue } := by
  unfold Channel.takeFall
  dsimp only
  split
  · rfl
  · next h => simp [Bool.eq_false_iff.2 h]

/-- What a move of a channel has done before the Planner acts: the gate filters, the records of a rise, a fall and a
cut, the heats of a tick, the counts of a sample. -/
inductive State.Prep (c : Chan) (s : State) : Instr → Channel → Prop where
  | own (i : Instr) : Prep c s i (s.ch c)
  | risen (h : riseTaken (s.ch c) = true) : Prep c s (.upstreamRise c) (s.ch c).risen
  | queueFull (h : riseTaken (s.ch c) = true) (hd : (s.ch c).disregard = false) : Prep c s (.upstreamRise c)
      { (s.ch c).risen.postRefusal .queueFull with disregard := true }
  | refused (h : riseTaken (s.ch c) = true) (hd : (s.ch c).disregard = false) (hl : (s.ch c).queue.length < 4)
      {why : RefuseReason}
      (hw : (s.ch c).risen.refusal ((s.ch c).holdsProtected c s.slot) (s.avail c) = some why) :
    Prep c s (.upstreamRise c) ((s.ch c).risen.refusedRise s.now why)
  | booked (h : riseTaken (s.ch c) = true) (hd : (s.ch c).disregard = false) (hl : (s.ch c).queue.length < 4)
      (hw : (s.ch c).risen.refusal ((s.ch c).holdsProtected c s.slot) (s.avail c) = none) :
    Prep c s (.upstreamRise c) ((s.ch c).risen.booked s.now (s.delay c) (s.avail c))
  | fallen (h : fallTaken (s.ch c) = true) : Prep c s (.upstreamFall c) ((s.ch c).takeFall s.now)
  | returnLow (h : (s.ch c).markWaits = true) :
    Prep c s (.rawGateReturnLow c) { s.ch c with disregard := false, uwgHeld := 0 }
  | servo (i : Instr) (level : Bool) : Prep c s i { s.ch c with sg := level, sgHeld := 0 }
  | cutMark {r : BurstRecord} (hr : (s.ch c).stalled = some r) (h : (s.ch c).uwg = true) :
    Prep c s (.stallCut c) ((s.ch c).cutMark s.now r)
  | ticked (h : (s.ch c).nextTick ≤ s.now) : Prep c s (.heatTick c) ((s.ch c).ticked s.now)
  | sampled (lines : BitVec 2) (m : Monitor) : Prep c s (.monitorSample c lines) { s.ch c with mon := m }

/-- What a command of a channel has done before the Planner acts: the preparation of a move, or what a frame brings. -/
inductive State.Opening (c : Chan) (s : State) : Instr → Channel → Prop where
  | prep {i : Instr} {ch : Channel} (h : s.Prep c i ch) : Opening c s i ch
  | dressed (i : Instr) {ch : Channel} (h : (s.ch c).Dressed ch) : Opening c s i ch
  | delivered {i : Instr} {k : ReadKind} {byte : Byte} (hi : i = k.command c byte) {addr : Addr} {hold : ReadHold}
      (hm : readMatches s.loaded (s.ch c).port.page addr hold k = true) :
    Opening c s i (readEffect s.loaded addr hold byte (s.ch c))

/-- A frame touches its own fields only. -/
theorem State.Opening.prep_or_touched {c : Chan} {s : State} {i : Instr} {ch : Channel} (h : s.Opening c i ch) :
    s.Prep c i ch ∨ (s.ch c).Touched ch := by
  cases h with
  | prep h => exact .inl h
  | dressed h => exact .inr h.toTouched
  | delivered => exact .inr (readEffect_touched _ _ _ _ _)

/-- A preparation and an act of the Planner. Only a write start may raise the write gate (R19). -/
def State.MoveFactors (c : Chan) (s : State) (i : Instr) (ch' : Channel) : Prop :=
  ∃ ch₁ start, s.Prep c i ch₁ ∧ ch₁.Planned s.now start ch' ∧
    (start = true → ∃ rise r, i = .writeStart c rise ∧ (s.ch c).recordAt rise = some r ∧
      r.startDue s.now (s.delay c) = true ∧ ch' = (s.ch c).takeWriteStart s.now r)

/-- An opening, an act of the Planner, and at the end the port and the Journal of a completed frame. Only a write
start may raise the write gate (R19). -/
def State.Factors (c : Chan) (s : State) (i : Instr) (ch' : Channel) : Prop :=
  ∃ ch₁ ch₂ start, s.Opening c i ch₁ ∧ ch₁.Planned s.now start ch₂ ∧ ch₂.Dressed ch' ∧
    (start = true → ∃ rise r, i = .writeStart c rise ∧ (s.ch c).recordAt rise = some r ∧
      r.startDue s.now (s.delay c) = true ∧ ch' = (s.ch c).takeWriteStart s.now r)

theorem State.Prep.factors {c : Chan} {s : State} {i : Instr} {ch₁ ch₂ : Channel} (h : s.Prep c i ch₁)
    (hp : ch₁.Planned s.now false ch₂) : s.MoveFactors c i ch₂ := ⟨ch₁, false, h, hp, nofun⟩

theorem State.Factors.of_dressed {c : Chan} {s : State} {i : Instr} {ch' : Channel} (h : (s.ch c).Dressed ch') :
    s.Factors c i ch' := ⟨ch', ch', false, .dressed i h, .refl ch', .refl ch', nofun⟩

theorem State.Move.factors {c : Chan} {s : State} {i : Instr} {ch' : Channel} (h : s.Move c i ch') :
    s.MoveFactors c i ch' := by
  cases h with
  | rise h =>
    rcases Channel.takeRise_cases s.now (s.delay c) ((s.ch c).holdsProtected c s.slot) (s.avail c) (s.ch c) with
      ⟨-, he⟩ | ⟨hd, ⟨-, he⟩ | ⟨hl, why, hw, he⟩ | ⟨hl, hw, he⟩⟩ <;> rw [he]
    · exact (Prep.risen h).factors (.refl _)
    · exact (Prep.queueFull h hd).factors (.refl _)
    · exact (Prep.refused h hd hl hw).factors (.refl _)
    · exact (Prep.booked h hd hl hw).factors (Channel.enterService_planned _)
  | fall h => exact (Prep.fallen h).factors (.refl _)
  | returnLow h => exact (Prep.returnLow h).factors (.refl _)
  | servoRise => exact (Prep.servo _ true).factors (Channel.servoUp_planned _)
  | servoFall => exact (Prep.servo _ false).factors (Channel.servoDown_planned _ _)
  | warmStart => exact (Prep.own _).factors (Channel.takeWarmStart_planned _ _)
  | writeStart hr h =>
    exact ⟨_, true, .own _, Channel.takeWriteStart_planned (Channel.recordAt_mem hr),
      fun _ => ⟨_, _, rfl, hr, h, rfl⟩⟩
  | writeEnd => exact (Prep.own _).factors (Channel.takeWriteEnd_planned _ _ _)
  | tailEnd => exact (Prep.own _).factors (Channel.tailEnd_planned _ _ _)
  | stallCut hr h =>
    exact (Prep.cutMark hr h).factors (Channel.cut_planned _ (List.mem_of_find?_eq_some hr))
  | heatTick h => exact (Prep.ticked h).factors (Channel.drift_planned _)
  | @sample lines h =>
    obtain ⟨m, -, -, ⟨he, -⟩ | ⟨k, he⟩⟩ := (s.ch c).takeSample_cases s.now lines <;> rw [he]
    · exact (Prep.sampled lines m).factors (.refl _)
    · exact (Prep.sampled lines m).factors (Channel.enterFault_planned k _)

theorem State.Frame.factors {c : Chan} {s : State} {i : Instr} {ch' : Channel} (h : s.Frame c i ch') :
    s.Factors c i ch' := by
  cases h with
  | grantRelayed => exact .of_dressed (Channel.startJob_dressed _ _ _)
  | grantLearning => exact .of_dressed (Channel.startLearning_dressed _ _)
  | grantUpkeep => exact .of_dressed (Channel.startUpkeep_dressed _ _)
  | grantRecord => exact .of_dressed (Channel.startRecord_dressed _ _ _)
  | grantSummary => exact .of_dressed (Channel.startSummary_dressed _ _ _)
  | learnPage | pageSelected =>
    exact ⟨_, _, false, .dressed _ (Channel.setPage_dressed _ _), .refl _, Channel.advance_dressed _ _ _ _, nofun⟩
  | learnHead =>
    exact ⟨_, _, false, .dressed _ (Channel.headSelSet_dressed _ _), Channel.refreshRest_planned _,
      Channel.advance_dressed _ _ _ _, nofun⟩
  | upkeepWritten =>
    exact ⟨_, _, false, .dressed _ (Channel.imageWrite_dressed _ _ _), .refl _, Channel.advance_dressed _ _ _ _, nofun⟩
  | recordWritten | summaryWritten => exact .of_dressed (Channel.advance_dressed _ _ _ _)

/-- Every answer of a command of a channel factors so. -/
theorem State.Answer.factors {c : Chan} {s t : State} {i : Instr} (h : s.Answer c i t) :
    s.Factors c i (t.ch c) := by
  cases h with
  | unchanged => exact .of_dressed (.refl _)
  | move _ h =>
    obtain ⟨ch₁, start, hprep, hplan, hstart⟩ := h.factors
    rw [State.upd_ch]
    exact ⟨_, _, start, .prep hprep, hplan, .refl _, hstart⟩
  | frame _ h => simpa using h.factors
  | @write k page addr data =>
    rw [State.delivered_ch, WriteKind.effect_eq]
    exact ⟨_, _, false, .dressed _ (k.dress_dressed addr data _), k.plan_planned _, Channel.freePort_dressed _, nofun⟩
  | read hi _ hk =>
    refine ⟨_, _, false, .delivered hi hk, .refl _, ?_, nofun⟩
    cases c <;> exact Channel.freePort_dressed _

/-! ## The write gate (R19) -/

/-- Nothing before the Planner acts moves the write gate. -/
theorem State.Opening.gate {c : Chan} {s : State} {i : Instr} {ch : Channel} (h : s.Opening c i ch) :
    ch.dwg = (s.ch c).dwg := by
  rcases h.prep_or_touched with h | h
  · cases h with
    | fallen => rw [Channel.takeFall_frame]
    | _ => rfl
  · exact h.dwg

/-- An entry into WRITE for a record raises the write gate exactly for an ACCEPTED one (R19, R47). -/
def Channel.WritesFor (r : BurstRecord) (ch : Channel) : Prop :=
  ch.plan = .write ∧ ch.lvl = servedLevel .write r ∧ ch.dwg = (servedLevel .write r == .write)

theorem Channel.WritesFor.of_gate {r : BurstRecord} {ch : Channel} (h : ch.WritesFor r) (hg : ch.dwg = true) :
    r.isAccepted = true ∧ ch.plan = .write ∧ ch.lvl = .write := by
  obtain ⟨hp, hl, hd⟩ := h
  rw [hg] at hd
  have hw : servedLevel .write r = .write := by simpa using hd.symm
  refine ⟨?_, hp, hl.trans hw⟩
  by_contra hn
  simp [servedLevel, hn] at hw

theorem Channel.handOver_writesFor (now : Nat) (old r : BurstRecord) (ch : Channel) :
    (ch.handOver now .write old r).WritesFor r := by
  unfold Channel.handOver
  split <;> exact ⟨rfl, rfl, rfl⟩

theorem Channel.startWriting_gate (now : Nat) (r : BurstRecord) (ch : Channel) :
    ch.startWriting now r = ch ∨ (ch.startWriting now r).WritesFor r := by
  unfold Channel.startWriting
  split
  · exact .inr ⟨rfl, rfl, rfl⟩
  · split
    · exact .inr ⟨rfl, rfl, rfl⟩
    · split
      · split
        · exact .inr (Channel.handOver_writesFor _ _ _ _)
        · exact .inl rfl
      · exact .inl rfl

/-- What a write start that raises the write gate has found and left (R19). -/
theorem Channel.takeWriteStart_gate {now : Nat} {r : BurstRecord} {ch : Channel} (h : ch.dwg = false)
    (hg : (ch.takeWriteStart now r).dwg = true) : r.isAccepted = true ∧ ch.sg = false ∧
      (ch.takeWriteStart now r).plan = .write ∧ (ch.takeWriteStart now r).lvl = .write := by
  unfold Channel.takeWriteStart at hg ⊢
  dsimp only at hg ⊢
  split at hg
  · next hs =>
    rw [if_pos hs]
    split at hg
    · simp [Channel.truncate, h] at hg
    · next hsg =>
      rw [if_neg hsg]
      rcases Channel.startWriting_gate now r (ch.updRecord r.rise fun x => { x with startTaken := true }) with he | hw
      · rw [he] at hg
        simp [h] at hg
      · obtain ⟨ha, hp, hl⟩ := hw.of_gate hg
        exact ⟨ha, by simpa using hsg, hp, hl⟩
  · simp [h] at hg

/-- Settles O9: of all preparations and acts of the Planner only a write start raises the gate. -/
theorem writeGateRisesOnlyAtAWriteStart : Obligations.WriteGateRisesOnlyAtAWriteStart := by
  intro i c s t h hlow hhigh
  rcases exec_ch h c with he | ⟨-, ⟨n, he⟩ | ⟨n, now, g, d, he⟩⟩ | ⟨-, ha⟩
  · rw [he, hlow] at hhigh; cases hhigh
  · rw [he] at hhigh; cases hhigh
  · rw [he] at hhigh; cases hhigh
  · obtain ⟨ch₁, ch₂, start, hopen, hplan, hdress, hstart⟩ := ha.factors
    cases start with
    | false =>
      have := hopen.gate ▸ hplan.gate rfl (hdress.dwg ▸ hhigh)
      rw [hlow] at this; cases this
    | true =>
      obtain ⟨rise, r, hi, hr, hdue, he⟩ := hstart rfl
      rw [he] at hhigh ⊢
      obtain ⟨hacc, hsg, hp, hl⟩ := Channel.takeWriteStart_gate hlow hhigh
      have hd : r.startTaken = false ∧ r.writeStart (s.delay c) ≤ s.now := by simpa [BurstRecord.startDue] using hdue
      exact ⟨rise, r, hi, hr, hacc, hsg, Channel.recordAt_rise hr ▸ hd.2, hp, hl⟩

/-! ## Nothing happens in a reset -/

/-- Settles O6: every change a command of a channel makes presupposes a running part. -/
theorem nothingHappensInReset : Obligations.NothingHappensInReset := fun _ _ _ => exec_of_not_running

end Sys2Proof.Machine
end

section
/-! SUPPORT. The frame of the heat model (R59 to R63, R68), and the outcomes of records (R6 to R8), over every command.
-/

namespace Sys2Proof.Machine

/-! ## The heat model's frame -/

/-- The heats, the tallies and the tick timer are as they were. -/
structure Channel.SameHeat (ch ch' : Channel) : Prop where
  heats : ch'.heads.map (·.heat) = ch.heads.map (·.heat)
  tallies : ch'.heads.map (·.tally) = ch.heads.map (·.tally)
  nextTick : ch'.nextTick = ch.nextTick
  tickPeriod : ch'.tickPeriod = ch.tickPeriod

theorem Channel.SameHeat.trans {ch ch' ch'' : Channel} (h : ch.SameHeat ch') (h' : ch'.SameHeat ch'') :
    ch.SameHeat ch'' :=
  ⟨h'.heats.trans h.heats, h'.tallies.trans h.tallies, h'.nextTick.trans h.nextTick, h'.tickPeriod.trans h.tickPeriod⟩

theorem Channel.Touched.sameHeat {ch ch' : Channel} (h : ch.Touched ch') : ch.SameHeat ch' :=
  ⟨h.heats, h.tallies, h.nextTick, h.tickPeriod⟩

theorem Channel.Framed.sameHeat {ch ch' : Channel} (h : ch.Framed ch') : ch.SameHeat ch' :=
  ⟨by rw [h.heads], by rw [h.heads], h.nextTick, h.tickPeriod⟩

/-- Before the Planner acts only a tick moves the heats, the tallies or the tick timer (R60, R63). -/
theorem State.Opening.sameHeat {c : Chan} {s : State} {i : Instr} {ch : Channel} (h : s.Opening c i ch)
    (hi : i ≠ .heatTick c) : (s.ch c).SameHeat ch := by
  rcases h.prep_or_touched with h | h
  · cases h with
    | ticked => exact absurd rfl hi
    | fallen => rw [Channel.takeFall_frame]; exact ⟨rfl, rfl, rfl, rfl⟩
    | _ => exact ⟨rfl, rfl, rfl, rfl⟩
  · exact h.sameHeat

/-- Nothing before the Planner acts moves the delay line (R4). -/
theorem State.Opening.delayLine {c : Chan} {s : State} {i : Instr} {ch : Channel} (h : s.Opening c i ch) :
    ch.delayLine = (s.ch c).delayLine := by
  rcases h.prep_or_touched with h | h
  · cases h with
    | fallen => rw [Channel.takeFall_frame]
    | _ => rfl
  · exact h.delayLine

/-- A read that does not match the temperature register leaves the ambient reading (R68). -/
theorem readEffect_ambient {l : LoadedCopy} {addr : Addr} {hold : ReadHold} {byte : Byte} {ch : Channel}
    (h : readMatches l ch.port.page addr hold .other = true) :
    (readEffect l addr hold byte ch).ambient = ch.ambient ∧
    (readEffect l addr hold byte ch).ambientSet = ch.ambientSet := by
  unfold readEffect
  split
  · exact ⟨rfl, rfl⟩
  · next hd =>
    have ht : isTemperature l ch.port.page addr = false := by
      simp only [readMatches, Bool.or_eq_true, beq_iff_eq, hd, false_or, Bool.not_eq_true', Bool.or_eq_false_iff] at h
      exact h.1.1
    unfold Channel.deliverRead Channel.deliverSummary Channel.deliverSlot Channel.deliverTemperature
    simp only [ht, Bool.false_eq_true, if_false]
    constructor <;> (split <;> split <;> rfl)

/-- Only a read that may match the temperature register moves the ambient reading (R68, R144). -/
theorem State.Opening.ambient {c : Chan} {s : State} {i : Instr} {ch : Channel} (h : s.Opening c i ch)
    (hi : ∀ byte, i ≠ .temperatureRead c byte ∧ i ≠ .journalSlotRead c byte ∧ i ≠ .summaryRead c byte) :
    ch.ambient = (s.ch c).ambient ∧ ch.ambientSet = (s.ch c).ambientSet := by
  cases h with
  | dressed h => exact ⟨h.ambient, h.ambientSet⟩
  | @delivered k byte he _ _ hm =>
    obtain ⟨h1, h2, h3⟩ := hi byte
    cases k with
    | temperature => exact absurd he h1
    | journalSlot => exact absurd he h2
    | summary => exact absurd he h3
    | other => exact readEffect_ambient hm
  | prep h =>
    cases h with
    | fallen => rw [Channel.takeFall_frame]; exact ⟨rfl, rfl⟩
    | _ => exact ⟨rfl, rfl⟩

/-- Settles O8: the frame of a preparation, of an act of the Planner and of a completion. -/
theorem onlyTicksAndResetsMoveTheHeat : Obligations.OnlyTicksAndResetsMoveTheHeat := by
  intro i c s t h hi
  rcases exec_ch h c with he | ⟨hr, -⟩ | ⟨-, ha⟩
  · simp [he]
  · rw [hi] at hr; cases hr
  · obtain ⟨ch₁, ch₂, start, hopen, hplan, hdress, -⟩ := ha.factors
    refine ⟨fun ht => ?_, fun hr => ?_, ?_⟩
    · obtain ⟨h1, h2, h3, h4⟩ := ((hopen.sameHeat ht).trans hplan.sameHeat).trans hdress.sameHeat
      exact ⟨h1, h2, h3, h4⟩
    · obtain ⟨ha, hs⟩ := hopen.ambient hr
      exact ⟨hdress.ambient.trans (hplan.ambient.trans ha), hdress.ambientSet.trans (hplan.ambientSet.trans hs)⟩
    · exact hdress.delayLine.trans (hplan.delayLine.trans hopen.delayLine)

/-! ## The burst queue through a preparation -/

namespace Channel.QueueLaw

variable {now delay : Nat} {ch : Channel}

theorem risesDistinct (h : ch.QueueLaw now delay) : ch.RisesDistinct := by
  refine List.pairwise_map.2 (h.apart.imp_of_mem fun {r r'} hr _ => ?_)
  rintro ⟨f, hf, hlt⟩
  have := (h.falls r hr f hf).1
  omega

/-- At a rise every record's fall is known, 2 quanta ago or more (R1, R9). -/
theorem fallen_of_riseTaken (h : ch.QueueLaw now delay) (ht : riseTaken ch = true) :
    ∀ r ∈ ch.queue, ∃ f, r.fall = some f ∧ r.rise ≤ f ∧ f + 2 ≤ now := by
  intro r hr
  have ht := riseTaken_iff.1 ht
  cases hf : r.fall with
  | none =>
    have := (h.openBurst r hr hf).1
    rw [ht.1] at this; cases this
  | some f =>
    obtain ⟨h1, -, h3⟩ := h.falls r hr f hf
    exact ⟨f, rfl, h1, by have := h3 ht.1; omega⟩

/-- Every record but the newest has its fall and no stall timer. -/
theorem fallen_but_newest (h : ch.QueueLaw now delay) :
    ch.queue.Pairwise fun r _ => r.fall.isSome ∧ r.stall = none := by
  refine h.apart.imp_of_mem fun {r r'} hr _ => ?_
  rintro ⟨f, hf, -⟩
  refine ⟨by simp [hf], ?_⟩
  cases hs : r.stall with
  | none => rfl
  | some n =>
    have := h.stalls r hr (by simp [hs])
    rw [hf] at this; cases this

end Channel.QueueLaw

/-- What a record captured at its rise, with its fall and its outcome as they may move in one command (R6 to R8). -/
structure BurstRecord.Evolves (now : Nat) (r r' : BurstRecord) : Prop where
  head : r'.head = r.head
  band : r'.band = r.band
  rise : r'.rise = r.rise
  lead : r'.lead = r.lead
  ceiling : r'.ceiling = r.ceiling
  fall : ∀ f, r.fall = some f → r'.fall = some f
  outcome : r'.outcome = r.outcome ∨ r.served = true ∧ r'.Ended now

theorem BurstRecord.Follows.evolves {now : Nat} {r r' : BurstRecord} (h : r.Follows now r') : r.Evolves now r' where
  head := h.head
  band := h.band
  rise := h.rise
  lead := h.lead
  ceiling := h.ceiling
  fall _ hf := h.fall.trans hf
  outcome := h.outcome

theorem BurstRecord.setFall_evolves (now : Nat) (r : BurstRecord) : r.Evolves now (r.setFall now) :=
  ⟨rfl, rfl, rfl, rfl, rfl, fun f hf => by simp [BurstRecord.setFall, hf], .inl rfl⟩

theorem BurstRecord.Evolves.then {now : Nat} {r r' r'' : BurstRecord} (h : r.Evolves now r')
    (h' : r'.Follows now r'') : r.Evolves now r'' where
  head := h'.head.trans h.head
  band := h'.band.trans h.band
  rise := h'.rise.trans h.rise
  lead := h'.lead.trans h.lead
  ceiling := h'.ceiling.trans h.ceiling
  fall _ hf := h'.fall.trans (h.fall _ hf)
  outcome := by
    rcases h'.outcome with ho' | ⟨hs, he⟩
    · rcases h.outcome with ho | ⟨hs, he⟩
      · exact .inl (ho'.trans ho)
      · exact .inr ⟨hs, by rwa [Ended, ho']⟩
    · rcases h.outcome with ho | ⟨-, he'⟩
      · exact .inr ⟨served_congr ho ▸ hs, he⟩
      · rw [he'.not_served] at hs; cases hs

/-- Before the Planner acts a record of the queue is one of the state's, or the one of the rise now taken, later than
all. -/
theorem State.Opening.queue_mem {c : Chan} {s : State} {i : Instr} {ch : Channel} (h : s.Opening c i ch)
    (hq : (s.ch c).QueueLaw s.now (s.delay c)) {r' : BurstRecord} (hr' : r' ∈ ch.queue) :
    (∃ r ∈ (s.ch c).queue, r.Evolves s.now r') ∨ r'.rise = s.now ∧ riseTaken (s.ch c) = true := by
  have same {ch : Channel} (he : ch.queue = (s.ch c).queue) (hr' : r' ∈ ch.queue) :
      ∃ r ∈ (s.ch c).queue, r.Evolves s.now r' := ⟨r', he ▸ hr', (BurstRecord.Follows.refl _ r').evolves⟩
  rcases h.prep_or_touched with h | h
  case inr => exact .inl (same h.queue hr')
  cases h with
  | refused ht =>
    rcases List.mem_append.1 hr' with hr' | hr'
    · exact .inl (same rfl hr')
    · exact .inr ⟨by rw [List.mem_singleton.1 hr']; rfl, ht⟩
  | booked ht =>
    rcases List.mem_append.1 hr' with hr' | hr'
    · exact .inl (same rfl hr')
    · exact .inr ⟨by rw [List.mem_singleton.1 hr']; rfl, ht⟩
  | fallen =>
    left
    unfold Channel.takeFall at hr'
    dsimp only at hr'
    split at hr'
    · exact same rfl hr'
    · rw [Channel.setNewestFall_eq_map _ _ hq.fallen_but_newest] at hr'
      obtain ⟨r, hr, rfl⟩ := List.mem_map.1 hr'
      exact ⟨r, hr, r.setFall_evolves s.now⟩
  | cutMark hr h =>
    left
    obtain ⟨x, hx, rfl⟩ := List.mem_map.1 hr'
    refine ⟨x, hx, ?_⟩
    split
    · exact x.setFall_evolves s.now
    · exact (BurstRecord.Follows.refl _ x).evolves
  | _ => exact .inl (same rfl hr')

/-- Rises stay distinct. -/
theorem State.Opening.risesDistinct {c : Chan} {s : State} {i : Instr} {ch : Channel} (h : s.Opening c i ch)
    (hq : (s.ch c).QueueLaw s.now (s.delay c)) : ch.RisesDistinct := by
  have hd := hq.risesDistinct
  have append {r : BurstRecord} (ht : riseTaken (s.ch c) = true) (hr : r.rise = s.now) :
      (((s.ch c).queue ++ [r]).map (·.rise)).Nodup := by
    rw [List.map_append, List.nodup_append]
    refine ⟨hd, List.nodup_singleton _, ?_⟩
    simp only [List.mem_map, List.map_cons, List.map_nil, List.mem_singleton]
    rintro _ ⟨x, hx, rfl⟩ _ rfl
    obtain ⟨f, -, h1, h2⟩ := hq.fallen_of_riseTaken ht x hx
    omega
  rcases h.prep_or_touched with h | h
  case inr => rw [Channel.RisesDistinct, h.queue]; exact hd
  cases h with
  | refused ht => exact append ht rfl
  | booked ht => exact append ht rfl
  | fallen =>
    unfold Channel.takeFall
    dsimp only
    split
    · exact hd
    · rw [Channel.RisesDistinct, Channel.setNewestFall_eq_map _ _ hq.fallen_but_newest, List.map_map]
      exact hd
  | @cutMark r =>
    have he := (s.ch c).updRecord_rises (rise := r.rise) (f := (·.setFall s.now)) fun _ => rfl
    exact (congrArg List.Nodup he).mpr hd
  | _ => exact hd

/-- Settles O10: no two records share a rise, so a record of afterwards is that of before, evolved. -/
theorem outcomeChangesAtMostOnce : Obligations.OutcomeChangesAtMostOnce := by
  intro i c s t _ hq h r hr r' hr' he
  have evolved : r.Evolves s.now r' := by
    rcases exec_ch h c with hc | ⟨-, ⟨n, hc⟩ | ⟨n, now, g, d, hc⟩⟩ | ⟨-, ha⟩
    · rw [hc] at hr'
      rw [hq.risesDistinct.eq hr hr' he]
      exact (BurstRecord.Follows.refl _ r).evolves
    · rw [hc] at hr'; cases hr'
    · rw [hc] at hr'; cases hr'
    · obtain ⟨ch₁, ch₂, start, hopen, hplan, hdress, -⟩ := ha.factors
      obtain ⟨r₁, hr₁, hf⟩ := (hplan.keeps (hopen.risesDistinct hq)).queue.exists_of_mem (hdress.queue ▸ hr')
      rcases hopen.queue_mem hq hr₁ with ⟨r₀, hr₀, hev⟩ | ⟨hnew, ht⟩
      · have hev := hev.then hf
        rwa [hq.risesDistinct.eq hr hr₀ (hev.rise.symm.trans he)] at hev
      · obtain ⟨f, -, h1, h2⟩ := hq.fallen_of_riseTaken ht r hr
        have := hf.rise
        omega
  obtain ⟨h1, h2, -, h4, h5, h6, h7⟩ := evolved
  refine ⟨h1, h2, h4, h5, h6, h7.imp_right fun ⟨hs, hend⟩ => ⟨BurstRecord.served_iff.1 hs, ?_⟩⟩
  exact hend.imp_left fun ⟨why, hw⟩ => ⟨why, hw⟩

end Sys2Proof.Machine
end

section
/-! SUPPORT. The laws of the gate filters, the burst queue and the reservations through every command (R1, R6, R9, R89
to R96). -/

namespace Sys2Proof.Machine

/-! ## The gate filters -/

theorem State.Opening.filterLaw {c : Chan} {s : State} {i : Instr} {ch : Channel} (h : s.Opening c i ch)
    (hf : (s.ch c).FilterLaw) : ch.FilterLaw := by
  obtain ⟨hg, hs⟩ := hf
  have zero : 0 ≤ 2 := Nat.zero_le 2
  rcases h.prep_or_touched with h | h
  case inr => exact ⟨h.uwgHeld.trans_le hg, h.sgHeld.trans_le hs⟩
  cases h with
  | risen | queueFull | refused | booked | returnLow => exact ⟨zero, hs⟩
  | fallen => rw [Channel.takeFall_frame]; exact ⟨zero, hs⟩
  | servo => exact ⟨hg, zero⟩
  | own | cutMark | ticked | sampled => exact ⟨hg, hs⟩

theorem State.Factors.filterLaw {c : Chan} {s : State} {i : Instr} {ch : Channel} (h : s.Factors c i ch)
    (hf : (s.ch c).FilterLaw) : ch.FilterLaw := by
  obtain ⟨ch₁, ch₂, start, hopen, hplan, hdress, -⟩ := h
  obtain ⟨hg, hs⟩ := hopen.filterLaw hf
  exact ⟨(hdress.uwgHeld.trans hplan.uwgHeld).trans_le hg, (hdress.sgHeld.trans hplan.sgHeld).trans_le hs⟩

/-! ## The burst queue -/

namespace Channel.QueueLaw

variable {now delay : Nat} {ch ch' : Channel}

theorem congr (h : ch.QueueLaw now delay) (hq : ch'.queue = ch.queue) (hu : ch'.uwg = ch.uwg)
    (hh : ch'.uwgHeld = ch.uwgHeld) (hd : ch'.disregard = ch.disregard) : ch'.QueueLaw now delay := by
  obtain ⟨h1, h2, h3, h4, h5, h6, h7, h8⟩ := h
  constructor <;> simp only [hq, hu, hh, hd] <;> assumption

theorem touched (h : ch.QueueLaw now delay) (ht : ch.Touched ch') : ch'.QueueLaw now delay :=
  h.congr ht.queue ht.uwg ht.uwgHeld ht.disregard

/-- An act of the Planner keeps the law of the queue. -/
theorem planned {start : Bool} (h : ch.QueueLaw now delay) (hp : ch.Planned now start ch') :
    ch'.QueueLaw now delay := by
  have hk := hp.keeps h.risesDistinct
  have old : ∀ r' ∈ ch'.queue, ∃ r ∈ ch.queue, r.Follows now r' := fun _ => hk.queue.exists_of_mem
  constructor
  · exact hk.queue.length_le.trans h.depth
  · exact hk.queue.pairwise h.apart fun r r' x x' hr hx ⟨f, hf, hlt⟩ => ⟨f, hr.fall.trans hf, hx.rise ▸ hlt⟩
  · intro r' hr'
    obtain ⟨r, hr, hf⟩ := old r' hr'
    exact hf.rise ▸ h.rises r hr
  · intro r' hr' f hfall
    obtain ⟨r, hr, hf⟩ := old r' hr'
    rw [hf.rise, hp.uwg, hp.uwgHeld]
    exact h.falls r hr f (hf.fall ▸ hfall)
  · intro r' hr' hfall
    obtain ⟨r, hr, hf⟩ := old r' hr'
    rw [hp.uwg]
    obtain ⟨hu, hd⟩ := h.openBurst r hr (hf.fall ▸ hfall)
    refine ⟨hu, ?_⟩
    rcases hk.disregard with he | he
    · exact he.trans hd
    · rw [he] at hr'; cases hr'
  · intro r' hr' hs
    obtain ⟨r, hr, hf⟩ := old r' hr'
    exact hf.fall.trans (h.stalls r hr (hf.stall ▸ hs))
  · intro r' hr' hs
    obtain ⟨r, hr, hf⟩ := old r' hr'
    exact hf.lead ▸ h.leads r hr (hf.served hs)
  · intro r' hr' hs
    obtain ⟨r, hr, hf⟩ := old r' hr'
    exact hf.ceiling ▸ h.ceilings r hr (hf.isAccepted hs)

/-- Once every fall is known, the mark and the level of the gate are free. -/
theorem of_fallen (h : ch.QueueLaw now delay) (hq : ch'.queue = ch.queue) (ha : ∀ r ∈ ch.queue, r.fall.isSome)
    (hu : ch'.uwg = false → ch'.uwgHeld = 0) : ch'.QueueLaw now delay := by
  obtain ⟨h1, h2, h3, h4, -, h6, h7, h8⟩ := h
  constructor <;> rw [hq]
  · exact h1
  · exact h2
  · exact h3
  · intro r hr f hf
    obtain ⟨hrise, hnow, -⟩ := h4 r hr f hf
    exact ⟨hrise, hnow, fun hl => by rw [hu hl]; exact hnow⟩
  · intro r hr hf
    have := ha r hr
    rw [hf] at this; cases this
  · exact h6
  · exact h7
  · exact h8

theorem fallen (h : ch.QueueLaw now delay) (ht : riseTaken ch = true) : ∀ r ∈ ch.queue, r.fall.isSome := by
  intro r hr
  obtain ⟨f, hf, -⟩ := h.fallen_of_riseTaken ht r hr
  simp [hf]

/-- The record of a rise joins the queue (R9, R10). -/
theorem append (h : ch.QueueLaw now delay) (ht : riseTaken ch = true) (hl : ch.queue.length < 4) {r : BurstRecord}
    (hr : r.rise = now) (hf : r.fall = none) (hlead : r.served = true → ∃ l, r.lead = some l ∧ l + 4 ≤ delay)
    (hceil : r.isAccepted = true → ∃ k, r.ceiling = some k ∧ -32 ≤ k ∧ k ≤ 31)
    (hq : ch'.queue = ch.queue ++ [r]) (hu : ch'.uwg = true) (hd : ch'.disregard = false) : ch'.QueueLaw now delay := by
  have both {P : BurstRecord → Prop} (ho : ∀ x ∈ ch.queue, P x) (hn : P r) : ∀ x ∈ ch.queue ++ [r], P x := by
    intro x hx
    rcases List.mem_append.1 hx with hx | hx
    · exact ho x hx
    · exact List.mem_singleton.1 hx ▸ hn
  constructor <;> rw [hq]
  · simpa using hl
  · rw [List.pairwise_append]
    refine ⟨h.apart, List.pairwise_singleton _ _, fun x hx y hy => ?_⟩
    obtain ⟨f, hxf, -, hlt⟩ := h.fallen_of_riseTaken ht x hx
    exact ⟨f, hxf, by rw [List.mem_singleton.1 hy, hr]; exact hlt⟩
  · exact both h.rises hr.le
  · refine both (fun x hx f hxf => ?_) (fun f hrf => ?_)
    · obtain ⟨h1, h2, -⟩ := h.falls x hx f hxf
      exact ⟨h1, h2, fun hlow => by rw [hu] at hlow; cases hlow⟩
    · rw [hf] at hrf; cases hrf
  · exact fun _ _ _ => ⟨hu, hd⟩
  · exact both h.stalls fun _ => hf
  · exact both h.leads hlead
  · exact both h.ceilings hceil

/-- Falls become known, at the latest now, and stall timers go (R10, R24). -/
theorem map_setFall (h : ch.QueueLaw now delay) {p : BurstRecord → Prop} [DecidablePred p]
    (hp : ∀ r ∈ ch.queue, r.fall = none → p r)
    (hq : ch'.queue = ch.queue.map fun r => if p r then r.setFall now else r)
    (hu : ch'.uwg = false → ch'.uwgHeld = 0) : ch'.QueueLaw now delay := by
  have every {P : BurstRecord → Prop} (hP : ∀ r ∈ ch.queue, P (if p r then r.setFall now else r)) :
      ∀ r ∈ ch'.queue, P r := by
    intro r' hr'
    rw [hq] at hr'
    obtain ⟨r, hr, rfl⟩ := List.mem_map.1 hr'
    exact hP r hr
  constructor
  · rw [hq, List.length_map]; exact h.depth
  · rw [hq, List.pairwise_map]
    refine h.apart.imp ?_
    rintro r x ⟨f, hf, hlt⟩
    refine ⟨f, ?_, ?_⟩
    · split
      · simp [BurstRecord.setFall, hf]
      · exact hf
    · split <;> exact hlt
  · refine every fun r hr => ?_
    split <;> exact h.rises r hr
  · refine every fun r hr f hf => ?_
    suffices h : r.rise ≤ f ∧ f ≤ now by
      refine ⟨?_, h.2, fun hl => by rw [hu hl]; exact h.2⟩
      split <;> exact h.1
    split at hf
    · have hf : r.fall.getD now = f := by simpa [BurstRecord.setFall] using hf
      cases hr' : r.fall with
      | none => rw [hr'] at hf; subst hf; exact ⟨h.rises r hr, Nat.le_refl _⟩
      | some g =>
        rw [hr'] at hf; subst hf
        obtain ⟨h1, h2, -⟩ := h.falls r hr g hr'
        exact ⟨h1, h2⟩
    · obtain ⟨h1, h2, -⟩ := h.falls r hr f hf
      exact ⟨h1, h2⟩
  · refine every fun r hr hf => ?_
    split at hf
    · simp [BurstRecord.setFall] at hf
    · next hn => exact absurd (hp r hr hf) hn
  · refine every fun r hr hs => ?_
    split at hs
    · simp [BurstRecord.setFall] at hs
    · next hn => rw [if_neg hn]; exact h.stalls r hr hs
  · refine every fun r hr hs => ?_
    split at hs
    · next hp => rw [if_pos hp]; exact h.leads r hr hs
    · next hn => rw [if_neg hn]; exact h.leads r hr hs
  · refine every fun r hr hs => ?_
    split at hs
    · next hp => rw [if_pos hp]; exact h.ceilings r hr hs
    · next hn => rw [if_neg hn]; exact h.ceilings r hr hs

/-- At most one record has its fall outstanding (R10). -/
theorem eq_of_open (h : ch.QueueLaw now delay) {r x : BurstRecord} (hr : r ∈ ch.queue) (hx : x ∈ ch.queue)
    (hrf : r.fall = none) (hxf : x.fall = none) : x = r := by
  have : Std.Symm fun r x : BurstRecord => r.fall.isSome = true ∨ x.fall.isSome = true := ⟨fun _ _ => Or.symm⟩
  have hp : ch.queue.Pairwise fun r x => r.fall.isSome = true ∨ x.fall.isSome = true :=
    h.fallen_but_newest.imp fun h => .inl h.1
  by_contra hne
  have := hp.forall hx hr hne
  simp [hrf, hxf] at this

end Channel.QueueLaw

/-! ## What an accepted rise has found (R14, R15) -/

/-- No test refuses: what the acceptance relies on. -/
structure Channel.Acceptable (held : Bool) (avail : Int) (ch : Channel) : Prop where
  mode : ch.set.mode ≠ .halt
  parked : ch.plan ≠ .parked
  fault : ch.plan ≠ .fault
  held : held = false
  head : ch.shadowHead ≠ none
  ready : ch.ready = true
  budget : ch.set.mode = .normal → -32 ≤ ch.riseCeiling avail

theorem Channel.acceptable_of_refusal {held : Bool} {avail : Int} {ch : Channel}
    (h : ch.refusal held avail = none) : ch.Acceptable held avail := by
  unfold Channel.refusal at h
  split at h
  · cases h
  next h1 =>
  split at h
  · cases h
  next h2 =>
  split at h
  · cases h
  next h3 =>
  split at h
  · cases h
  next h4 =>
  split at h
  · cases h
  split at h
  · cases h
  next h6 =>
  split at h
  · cases h
  next h7 =>
  rw [not_or] at h1
  exact ⟨h1.1, h1.2, h2, by simpa using h3, h4, by simpa using h6,
    fun hm => Int.not_lt.1 fun hlt => h7 ⟨hm, hlt⟩⟩

theorem Channel.servedRecord_isAccepted {now delay : Nat} {avail : Int} {ch : Channel} :
    (ch.servedRecord now delay avail).isAccepted = true ↔ ch.set.mode = .normal := by
  rw [BurstRecord.isAccepted_iff]
  show (if ch.set.mode = .normal then _ else _) = _ ↔ _
  split <;> simp [*]

theorem Channel.servedRecord_served (now delay : Nat) (avail : Int) (ch : Channel) :
    (ch.servedRecord now delay avail).served = true := by
  rw [BurstRecord.served_iff]
  show (if ch.set.mode = .normal then _ else _) = _ ∨ (if ch.set.mode = .normal then _ else _) = _
  split <;> simp

/-- The lead leaves the guard (R75). -/
theorem Channel.leadFor_le {delay : Nat} (h : 4 ≤ delay) (o : Option Nat) (ch : Channel) :
    ch.leadFor delay o + 4 ≤ delay := by
  unfold Channel.leadFor Config.guardQuanta
  omega

theorem Channel.riseCeiling_le (avail : Int) (ch : Channel) : ch.riseCeiling avail ≤ 31 := Int.min_le_left ..

theorem State.Opening.queueLaw {c : Chan} {s : State} {i : Instr} {ch : Channel} (h : s.Opening c i ch)
    (hl : s.loaded.Law) (hq : (s.ch c).QueueLaw s.now (s.delay c)) : ch.QueueLaw s.now (s.delay c) := by
  rcases h.prep_or_touched with h | h
  case inr => exact hq.touched h
  cases h with
  | risen ht => exact hq.of_fallen rfl (hq.fallen ht) nofun
  | queueFull ht => exact hq.of_fallen rfl (hq.fallen ht) nofun
  | refused ht hd hlen =>
    exact hq.append ht hlen rfl rfl (fun hs => by cases (hs : false = true)) (fun ha => by cases (ha : false = true))
      rfl rfl hd
  | booked ht hd hlen hw =>
    have hacc := Channel.acceptable_of_refusal hw
    have hdelay : 4 ≤ s.delay c := Nat.le_trans (by omega) (hl.delays c).1
    refine hq.append ht hlen (r := (s.ch c).risen.servedRecord s.now (s.delay c) (s.avail c)) rfl rfl ?_ ?_ rfl rfl hd
    · exact fun _ => ⟨_, rfl, Channel.leadFor_le hdelay _ _⟩
    · intro ha
      have hm := Channel.servedRecord_isAccepted.1 ha
      exact ⟨_, if_pos hm, hacc.budget hm, Channel.riseCeiling_le _ _⟩
  | fallen =>
    unfold Channel.takeFall
    dsimp only
    split
    · next hd =>
      refine hq.of_fallen rfl (fun r hr => ?_) fun _ => rfl
      cases hf : r.fall with
      | some f => rfl
      | none => rw [(hq.openBurst r hr hf).2] at hd; cases hd
    · refine hq.map_setFall (p := fun _ => True) (fun _ _ _ => trivial) ?_ fun _ => rfl
      simpa using Channel.setNewestFall_eq_map _ _ hq.fallen_but_newest
  | returnLow hm =>
    obtain ⟨-, hu, -⟩ := Channel.markWaits_iff.1 hm
    refine hq.of_fallen rfl (fun r hr => ?_) fun _ => rfl
    cases hf : r.fall with
    | some f => rfl
    | none => rw [(hq.openBurst r hr hf).1] at hu; cases hu
  | @cutMark r hr hu =>
    have hmem : r ∈ (s.ch c).queue := List.mem_of_find?_eq_some hr
    have hstall : r.stall = some 0 := by simpa using List.find?_some hr
    have hopen := hq.stalls r hmem (by simp [hstall])
    refine hq.map_setFall (p := fun x => x.rise = r.rise) (fun x hx hf => ?_) rfl fun hlow => ?_
    · rw [hq.eq_of_open hmem hx hopen hf]
    · rw [show ((s.ch c).cutMark s.now r).uwg = (s.ch c).uwg from rfl, hu] at hlow; cases hlow
  | own | servo | ticked | sampled => exact hq.congr rfl rfl rfl rfl

theorem State.Factors.queueLaw {c : Chan} {s : State} {i : Instr} {ch : Channel} (h : s.Factors c i ch)
    (hl : s.loaded.Law) (hq : (s.ch c).QueueLaw s.now (s.delay c)) : ch.QueueLaw s.now (s.delay c) := by
  obtain ⟨ch₁, ch₂, start, hopen, hplan, hdress, -⟩ := h
  exact ((hopen.queueLaw hl hq).planned hplan).touched hdress.toTouched

end Sys2Proof.Machine
end

section
/-! SUPPORT. What a move leaves of the tables and the port, which frames are held for an active channel, and the
reservations through every command (R89 to R96, R141, R142). -/

namespace Sys2Proof.Machine

/-! ## What a move leaves -/

/-- The tables, the port and the level image are kept, and the Journal takes events only. -/
structure Channel.Local (ch ch' : Channel) : Prop where
  set : ch'.set = ch.set
  cals : ch'.heads.map (·.cal) = ch.heads.map (·.cal)
  injectMemory : ch'.injectMemory = ch.injectMemory
  port : ch'.port = ch.port
  image : ch'.image = ch.image
  posts : ch.jnl.Posts ch'.jnl

theorem Channel.Local.trans {ch ch' ch'' : Channel} (h : ch.Local ch') (h' : ch'.Local ch'') : ch.Local ch'' :=
  ⟨h'.set.trans h.set, h'.cals.trans h.cals, h'.injectMemory.trans h.injectMemory, h'.port.trans h.port,
    h'.image.trans h.image, h.posts.trans h'.posts⟩

theorem Channel.Planned.local {now : Nat} {start : Bool} {ch ch' : Channel} (h : ch.Planned now start ch') :
    ch.Local ch' := ⟨h.set, by rw [h.heads], h.injectMemory, h.port, h.image, h.posts⟩

theorem State.Prep.local {c : Chan} {s : State} {i : Instr} {ch : Channel} (h : s.Prep c i ch) :
    (s.ch c).Local ch := by
  cases h with
  | queueFull | refused => exact ⟨rfl, rfl, rfl, rfl, rfl, .one _ _ _ _⟩
  | fallen => rw [Channel.takeFall_frame]; exact ⟨rfl, rfl, rfl, rfl, rfl, .none⟩
  | ticked => exact ⟨rfl, by rw [Channel.ticked, List.map_map]; rfl, rfl, rfl, rfl, .none⟩
  | _ => exact ⟨rfl, rfl, rfl, rfl, rfl, .none⟩

theorem State.Move.local {c : Chan} {s : State} {i : Instr} {ch' : Channel} (h : s.Move c i ch') :
    (s.ch c).Local ch' := by
  obtain ⟨ch₁, start, hprep, hplan, -⟩ := h.factors
  exact hprep.local.trans hplan.local

theorem Channel.Local.heads_eq_nil_iff {ch ch' : Channel} (h : ch.Local ch') : ch'.heads = [] ↔ ch.heads = [] := by
  rw [← List.map_eq_nil_iff (f := fun h : Head => h.cal), h.cals, List.map_eq_nil_iff]

/-! ## What a frame leaves -/

/-- The burst queue, the plan and the channel fields are kept; level and monitor follow a target at most. -/
structure Channel.Unserved (ch ch' : Channel) : Prop where
  uwg : ch'.uwg = ch.uwg
  uwgHeld : ch'.uwgHeld = ch.uwgHeld
  disregard : ch'.disregard = ch.disregard
  queue : ch'.queue = ch.queue
  res : ch'.res = ch.res
  plan : ch'.plan = ch.plan
  heads : ch'.heads = ch.heads
  set : ch'.set = ch.set

theorem State.Frame.unserved {c : Chan} {s : State} {i : Instr} {ch' : Channel} (h : s.Frame c i ch') :
    (s.ch c).Unserved ch' := by
  cases h with
  | grantRelayed | grantLearning | grantSummary => constructor <;> rfl
  | grantUpkeep => unfold Channel.startUpkeep; split <;> constructor <;> rfl
  | grantRecord => unfold Channel.startRecord; split <;> constructor <;> rfl
  | learnHead => constructor <;> simp [Channel.setHeadSel]
  | learnPage | pageSelected | upkeepWritten | recordWritten | summaryWritten => constructor <;> simp

/-! ## Held frames (R141, R142) -/

/-- No write to the parameter page is a protected one's. -/
theorem paramWriteKind_not_protected (addr : Addr) (data : Byte) :
    paramWriteKind addr data ∉ [.headSelect, .levelRegister, .preampReset] := by
  have step {p : Prop} [Decidable p] {k k' : WriteKind} (h : k ∉ [.headSelect, .levelRegister, .preampReset])
      (h' : k' ∉ [.headSelect, .levelRegister, .preampReset]) :
      (if p then k else k') ∉ [.headSelect, .levelRegister, .preampReset] := by split <;> assumption
  unfold paramWriteKind
  refine step (by decide) (step (by decide) (step (by decide) (step (by decide) (step ?_ (step (by decide)
    (step (by decide) (step (by decide) (step (by decide) (step ?_ (step (by decide) (by decide)))))))))))
  · exact step (by decide) (step (by decide) (by decide))
  · exact step (by decide) (step (by decide) (by decide))

/-- The writes that the rows of head select, level registers and the preamplifier reset take are protected (R141). -/
theorem protectedFrame_of_writeKind {pageParam : Nibble} {page : Option Nibble} {addr : Addr} {data : Byte}
    (h : writeKind pageParam page addr data ∈ [.headSelect, .levelRegister, .preampReset]) :
    protectedFrame page (.write addr data) = true := by
  unfold writeKind at h
  split at h
  · simp at h
  split at h
  · next ha => simp [protectedFrame, ha]
  split at h
  · next hp => simp [protectedFrame, hp]
  split at h
  · next hp => rcases hp with ⟨hp, ha | ha | ha⟩ <;> simp [protectedFrame, hp, ha]
  split at h
  · exact absurd h (paramWriteKind_not_protected addr data)
  · simp at h

/-- A write whose frame was protected completes on a channel that is not active (R142). -/
theorem State.RelayLaw.inactive_of_protected {s : State} (hr : s.RelayLaw) {c : Chan} {page : Option Nibble}
    {addr : Addr}
    {data : Byte} (h : s.writeCompletes c page addr data) (hp : protectedFrame page (.write addr data) = true) :
    (s.ch c).active = false := by
  obtain ⟨-, hs, began, hj, -⟩ := h
  refine hr.held c (by simp [Channel.carriesRelayed, hj]) ?_
  rw [Channel.holdsProtected_iff]
  exact ⟨_, hs, by rw [Port.pageAtEnd_relayed hj, ← (hr.relayed c began page hj).1]; exact hp⟩

theorem Channel.any_served_of_inactive {ch : Channel} (h : ch.active = false) : ch.queue.any (·.served) = false :=
  (Bool.or_eq_false_iff.1 h).1

theorem Channel.any_isAccepted_of_inactive {ch : Channel} (h : ch.active = false) :
    ch.queue.any (·.isAccepted) = false :=
  Channel.any_isAccepted_of_any_served (Channel.any_served_of_inactive h)

/-! ## The reservations (R89 to R93) -/

/-- What one channel's reservation keeps of R89. -/
structure Channel.ResLaw (ch : Channel) : Prop where
  most : ch.res ≤ 286
  quiet : ch.queue.any (·.isAccepted) = false → ch.res = 0

theorem Channel.ResLaw.planned {now : Nat} {start : Bool} {ch ch' : Channel} (h : ch.ResLaw) (hd : ch.RisesDistinct)
    (hp : ch.Planned now start ch') : ch'.ResLaw ∧ ch'.res ≤ ch.res := by
  rcases (hp.keeps hd).booked with ⟨hr, ha⟩ | ⟨hr, -⟩
  · refine ⟨⟨hr.trans_le h.most, fun hn => hr.trans (h.quiet ?_)⟩, hr.le⟩
    exact Bool.eq_false_iff.2 fun hy => by rw [ha hy] at hn; cases hn
  · exact ⟨⟨by omega, fun _ => hr⟩, by omega⟩

theorem byteValue_le (f : Option Byte) : byteValue f ≤ 255 := by
  unfold byteValue; have := (f.getD 0).isLt; omega

theorem Channel.maxbase_le (h : Option Nat) (band : BitVec 3) (ch : Channel) : ch.maxbase h band ≤ 255 :=
  Nat.max_le.2 ⟨byteValue_le _, byteValue_le _⟩

/-- What an accepted rise books (R90 to R92). -/
theorem Channel.booked_resLaw {now delay : Nat} {avail : Int} {ch : Channel} (h : ch.ResLaw) :
    (ch.booked now delay avail).ResLaw ∧
    ((ch.booked now delay avail).res ≤ ch.res ∨ ((ch.booked now delay avail).res : Int) ≤ avail) := by
  have hq : (ch.booked now delay avail).queue = ch.queue ++ [ch.servedRecord now delay avail] := rfl
  have hres : (ch.booked now delay avail).res = ch.risenRes avail := rfl
  rw [hres]
  unfold Channel.risenRes
  by_cases hm : ch.set.mode = .normal
  · have hb := ch.maxbase_le ch.shadowHead ch.set.band
    have h1 : ch.riseCeiling avail ≤ 31 := Int.min_le_left ..
    have h2 : ch.riseCeiling avail ≤ avail - ch.maxbase ch.shadowHead ch.set.band := Int.min_le_right ..
    have hmost := h.most
    rw [if_pos hm]
    refine ⟨⟨?_, fun hn => ?_⟩, ?_⟩
    · rw [hres, Channel.risenRes, if_pos hm, raisedReservation]
      omega
    · rw [hq, List.any_append] at hn
      simp [Channel.servedRecord_isAccepted.2 hm] at hn
    · unfold raisedReservation
      omega
  · rw [if_neg hm]
    refine ⟨⟨?_, fun hn => ?_⟩, .inl le_rfl⟩
    · rw [hres, Channel.risenRes, if_neg hm]; exact h.most
    · rw [hres, Channel.risenRes, if_neg hm]
      rw [hq, List.any_append, Bool.or_eq_false_iff] at hn
      exact h.quiet hn.1

theorem State.Opening.resLaw {c : Chan} {s : State} {i : Instr} {ch : Channel} (h : s.Opening c i ch)
    (hq : (s.ch c).QueueLaw s.now (s.delay c)) (hr : (s.ch c).ResLaw) :
    ch.ResLaw ∧ (ch.res ≤ (s.ch c).res ∨ (ch.res : Int) ≤ s.avail c) := by
  have same {ch : Channel} (hres : ch.res = (s.ch c).res)
      (ha : ch.queue.any (·.isAccepted) = (s.ch c).queue.any (·.isAccepted)) :
      ch.ResLaw ∧ (ch.res ≤ (s.ch c).res ∨ (ch.res : Int) ≤ s.avail c) :=
    ⟨⟨hres.trans_le hr.most, fun hn => hres.trans (hr.quiet (ha ▸ hn))⟩, .inl hres.le⟩
  rcases h.prep_or_touched with h | h
  case inr => exact same h.res (by rw [h.queue])
  cases h with
  | booked => exact Channel.booked_resLaw (ch := (s.ch c).risen) ⟨hr.most, hr.quiet⟩
  | refused =>
    refine same rfl ?_
    show List.any (_ ++ [_]) _ = _
    rw [List.any_append]
    exact Bool.or_false _
  | fallen =>
    refine same (by rw [Channel.takeFall_frame]) ?_
    unfold Channel.takeFall
    dsimp only
    split
    · rfl
    · rw [Channel.setNewestFall_eq_map _ _ hq.fallen_but_newest, List.any_map]
      rfl
  | cutMark =>
    refine same rfl ?_
    show List.any (List.map _ _) _ = _
    rw [List.any_map]
    congr 1
    funext x
    show BurstRecord.isAccepted (ite ..) = _
    split <;> rfl
  | _ => exact same rfl rfl

theorem State.Factors.resLaw {c : Chan} {s : State} {i : Instr} {ch : Channel} (h : s.Factors c i ch)
    (hq : (s.ch c).QueueLaw s.now (s.delay c)) (hr : (s.ch c).ResLaw) :
    ch.ResLaw ∧ (ch.res ≤ (s.ch c).res ∨ (ch.res : Int) ≤ s.avail c) := by
  obtain ⟨ch₁, ch₂, start, hopen, hplan, hdress, -⟩ := h
  obtain ⟨hr₁, hle₁⟩ := hopen.resLaw hq hr
  obtain ⟨hr₂, hle₂⟩ := hr₁.planned (hopen.risesDistinct hq) hplan
  refine ⟨⟨hdress.res.trans_le hr₂.most, fun hn => hdress.res.trans (hr₂.quiet (hdress.queue ▸ hn))⟩, ?_⟩
  rw [hdress.res]
  omega

/-! ## What the reservation covers (R95, R96) -/

theorem Channel.CoverLaw.of_quiet {ch : Channel} (h : ch.queue.any (·.isAccepted) = false) : ch.CoverLaw :=
  fun r hr ha => absurd ha (List.any_eq_false.1 h r hr)

theorem Channel.CoverLaw.planned {now : Nat} {start : Bool} {ch ch' : Channel} (h : ch.CoverLaw)
    (hd : ch.RisesDistinct) (hp : ch.Planned now start ch') : ch'.CoverLaw := by
  intro r' hr' ha'
  have hk := hp.keeps hd
  obtain ⟨r, hr, hf⟩ := hk.queue.exists_of_mem hr'
  obtain ⟨w, v, k, hw, hv, hc, hle⟩ := h r hr (hf.isAccepted ha')
  refine ⟨w, v, k, hp.image ▸ hw, hp.image ▸ hv, hf.ceiling.trans hc, ?_⟩
  rcases hk.booked with ⟨hres, -⟩ | ⟨-, hn⟩
  · rwa [hres]
  · exact absurd ha' (List.any_eq_false.1 hn r' hr')

/-- Records that keep outcome and ceiling stay covered by a reservation that does not fall. -/
theorem Channel.CoverLaw.of_records {ch ch' : Channel} (h : ch.CoverLaw) (hi : ch'.image = ch.image)
    (hres : ch.res ≤ ch'.res) {r' : BurstRecord} (ha : r'.isAccepted = true)
    (hr : ∃ r ∈ ch.queue, r'.outcome = r.outcome ∧ r'.ceiling = r.ceiling) :
    ∃ (w v : Byte) (k : Int), ch'.image.warm = some w ∧ ch'.image.write = some v ∧ r'.ceiling = some k ∧
      max (w.toNat : Int) v.toNat + k ≤ ch'.res := by
  obtain ⟨r, hr, ho, hc⟩ := hr
  obtain ⟨w, v, k, hw, hv, hk, hle⟩ := h r hr (BurstRecord.isAccepted_congr ho ▸ ha)
  exact ⟨w, v, k, hi ▸ hw, hi ▸ hv, hc.trans hk, by omega⟩

/-- A ready channel has the target's bases in its WARM and WRITE registers (R149). -/
theorem Channel.image_of_ready {ch : Channel} (h : ch.ready = true) :
    ∃ w v : Byte, ch.image.warm = some w ∧ ch.image.write = some v ∧
      (ch.maxbase ch.shadowHead ch.set.band : Int) = max (w.toNat : Int) v.toNat := by
  simp only [Channel.ready, Bool.and_eq_true, Option.any_eq_true] at h
  obtain ⟨⟨t, ht, hagree⟩, -⟩ := h
  simp only [LevelImage.agrees, Bool.and_eq_true, beq_iff_eq] at hagree
  refine ⟨t.2.1, t.2.2, hagree.1.2, hagree.2, ?_⟩
  unfold Channel.target at ht
  split at ht
  · cases ht
  · next n hn =>
    split at ht
    · next b w v _ hw hv =>
      cases ht
      simp [Channel.maxbase, hn, hw, hv, byteValue]
    · cases ht

theorem State.Prep.coverLaw {c : Chan} {s : State} {i : Instr} {ch : Channel} (h : s.Prep c i ch)
    (hq : (s.ch c).QueueLaw s.now (s.delay c)) (hc : (s.ch c).CoverLaw) : ch.CoverLaw := by
  intro r' hr' ha
  have himage := h.local.image
  have old {ch : Channel} (hi : ch.image = (s.ch c).image) (hres : (s.ch c).res ≤ ch.res)
      (hr' : r' ∈ (s.ch c).queue) := hc.of_records hi hres ha ⟨r', hr', rfl, rfl⟩
  cases h with
  | refused =>
    rcases List.mem_append.1 hr' with hr' | hr'
    · exact old rfl le_rfl hr'
    · rw [List.mem_singleton.1 hr'] at ha; cases (ha : false = true)
  | booked _ _ _ hw =>
    have hle : (s.ch c).res ≤ ((s.ch c).risen.booked s.now (s.delay c) (s.avail c)).res := by
      show _ ≤ Channel.risenRes _ _
      unfold Channel.risenRes raisedReservation
      split
      · exact le_max_left ..
      · exact le_rfl
    rcases List.mem_append.1 hr' with hr' | hr'
    · exact old rfl hle hr'
    · rw [List.mem_singleton.1 hr'] at ha ⊢
      have hm := Channel.servedRecord_isAccepted.1 ha
      obtain ⟨w, v, hw, hv, hmax⟩ := Channel.image_of_ready (Channel.acceptable_of_refusal hw).ready
      refine ⟨w, v, _, hw, hv, if_pos hm, ?_⟩
      show _ ≤ ((Channel.risenRes _ _ : Nat) : Int)
      rw [Channel.risenRes, if_pos hm, raisedReservation, ← hmax]
      omega
  | fallen =>
    refine hc.of_records himage (by rw [Channel.takeFall_frame]) ha ?_
    unfold Channel.takeFall at hr'
    dsimp only at hr'
    split at hr'
    · exact ⟨r', hr', rfl, rfl⟩
    · rw [Channel.setNewestFall_eq_map _ _ hq.fallen_but_newest] at hr'
      obtain ⟨r, hr, rfl⟩ := List.mem_map.1 hr'
      exact ⟨r, hr, rfl, rfl⟩
  | cutMark =>
    refine hc.of_records himage le_rfl ha ?_
    obtain ⟨r, hr, rfl⟩ := List.mem_map.1 hr'
    refine ⟨r, hr, ?_⟩
    split <;> exact ⟨rfl, rfl⟩
  | _ => exact old rfl le_rfl hr'

/-- Of the frames only an upkeep write changes the level image, and it finds the channel not active (R151). -/
theorem State.Frame.image {c : Chan} {s : State} {i : Instr} {ch' : Channel} (h : s.Frame c i ch')
    (hr : s.RelayLaw) : ch'.image = (s.ch c).image ∨ (s.ch c).active = false := by
  cases h with
  | upkeepWritten h =>
    obtain ⟨-, began, hj, -⟩ := State.insertedDue_eq_some.1 h
    exact .inr (hr.upkeep c (by simp [Channel.upkeepRunning, hj]))
  | grantRelayed | grantLearning | grantSummary => exact .inl rfl
  | grantUpkeep => unfold Channel.startUpkeep; split <;> exact .inl rfl
  | grantRecord => unfold Channel.startRecord; split <;> exact .inl rfl
  | learnHead => exact .inl (by simp [Channel.setHeadSel])
  | learnPage | pageSelected | recordWritten | summaryWritten => exact .inl (by simp)

theorem WriteKind.dress_image {k : WriteKind} (h : k ∉ [.headSelect, .levelRegister, .preampReset]) (addr : Addr)
    (data : Byte) (ch : Channel) : (k.dress addr data ch).image = ch.image := by
  cases k with
  | levelRegister | preampReset => simp at h
  | _ => rfl

theorem State.Answer.coverLaw {c : Chan} {s t : State} {i : Instr} (h : s.Answer c i t) (hr : s.RelayLaw)
    (hq : (s.ch c).QueueLaw s.now (s.delay c)) (hc : (s.ch c).CoverLaw) : (t.ch c).CoverLaw := by
  have kept {ch : Channel} (hi : ch.image = (s.ch c).image) (hqueue : ch.queue = (s.ch c).queue)
      (hres : ch.res = (s.ch c).res) : ch.CoverLaw :=
    fun r hr ha => hc.of_records hi hres.ge ha ⟨r, hqueue ▸ hr, rfl, rfl⟩
  cases h with
  | unchanged => exact hc
  | move _ h =>
    obtain ⟨ch₁, start, hprep, hplan, -⟩ := h.factors
    rw [State.upd_ch]
    exact (hprep.coverLaw hq hc).planned ((Opening.prep hprep).risesDistinct hq) hplan
  | frame _ h =>
    rw [State.upd_ch]
    rcases h.image hr with hi | ha
    · exact kept hi h.unserved.queue h.unserved.res
    · exact .of_quiet (h.unserved.queue ▸ Channel.any_isAccepted_of_inactive ha)
  | @write k page addr data _ hw hk =>
    rw [State.delivered_ch, WriteKind.effect_eq]
    have hd := k.dress_dressed addr data (s.ch c)
    have hdist : (k.dress addr data (s.ch c)).RisesDistinct := by
      rw [Channel.RisesDistinct, hd.queue]; exact hq.risesDistinct
    have hcov : (k.dress addr data (s.ch c)).CoverLaw := by
      by_cases hp : k ∈ [.headSelect, .levelRegister, .preampReset]
      · refine .of_quiet (hd.queue ▸ Channel.any_isAccepted_of_inactive (hr.inactive_of_protected hw ?_))
        exact protectedFrame_of_writeKind (hk ▸ hp)
      · exact kept (k.dress_image hp addr data _) hd.queue hd.res
    have := hcov.planned hdist (k.plan_planned (now := s.now) (start := false) (k.dress addr data (s.ch c)))
    exact fun r hr ha => this r hr ha
  | read =>
    have hch : ∀ (x : Reception) (u : State), State.ch c { u with reception := x } = u.ch c := by
      cases c <;> intros <;> rfl
    rw [hch, State.delivered_ch]
    have ht := readEffect_touched s.loaded
    refine kept ?_ (ht _ _ _ _).queue (ht _ _ _ _).res
    show (readEffect ..).image = _
    unfold readEffect
    split
    · rfl
    · simp

end Sys2Proof.Machine
end

section
/-! SUPPORT. The laws of the Journal, the monitor and the heats through every command (R59 to R65, R100 to R107, R161 to
R170). -/

namespace Sys2Proof.Machine

/-! ## The Journal -/

/-- No slot is being filled. -/
def Journal.NoFilling (j : Journal) : Prop := ∀ n : BitVec 3, j.slots[n.toNat]? ≠ some .filling

/-- The port carries no record sequence. -/
def Port.NoRecord (p : Port) : Prop := ∀ began n frames, p.job ≠ some ⟨began, .inserted (.record n) frames⟩

namespace Channel.JournalLaw

variable {ch ch' : Channel}

theorem list (h : ch.JournalLaw) : ch.jnl.listLawful := ⟨h.pending, h.keys, h.counts⟩

/-- Without a record sequence no slot is being filled, and the law is that of the list and the eight slots. -/
theorem of_noRecord (hl : ch.jnl.listLawful) (hs : ch.jnl.slots.length = 8) (hf : ch.jnl.NoFilling)
    (hp : ch.port.NoRecord) : ch.JournalLaw := by
  obtain ⟨h1, h2, h3⟩ := hl
  exact ⟨h1, h2, h3, hs, fun n => ⟨fun h => absurd h (hf n), fun ⟨_, began, frames, h⟩ => absurd h (hp _ _ _)⟩⟩

theorem noFilling (h : ch.JournalLaw) (hp : ch.port.NoRecord) : ch.jnl.NoFilling := by
  intro n hn
  obtain ⟨-, began, frames, hj⟩ := (h.filling n).1 hn
  exact hp _ _ _ hj

/-- Posting keeps the law. -/
theorem of_posts (h : ch.JournalLaw) (hp : ch.jnl.Posts ch'.jnl) (hport : ch'.port = ch.port) : ch'.JournalLaw := by
  obtain ⟨hslots, hnext, -, hlist⟩ := hp.keeps
  obtain ⟨h1, h2, h3⟩ := hlist h.list
  refine ⟨h1, h2, h3, hslots ▸ h.slots, ?_⟩
  rw [hslots, hnext, hport]
  exact h.filling

end Channel.JournalLaw

/-- A slot that is set shows the new state, and every other its own. -/
theorem slots_set_filling {slots : List SlotState} {m n : BitVec 3} {x : SlotState} (hs : slots.length = 8) :
    (slots.set n.toNat x)[m.toNat]? = some .filling ↔
      m = n ∧ x = .filling ∨ m ≠ n ∧ slots[m.toNat]? = some .filling := by
  have hm := m.isLt
  rw [List.getElem?_set]
  by_cases he : n.toNat = m.toNat
  · have := BitVec.eq_of_toNat_eq he
    subst this
    simp [hs, hm]
  · have hne : m ≠ n := fun h => he (h ▸ rfl)
    simp [he, hne]

/-- A frame of a sequence has completed and the next begins, or the sequence ends (R140, R165, R167). -/
theorem Channel.advance_journalLaw {now began : Nat} {o : SeqOwner} {f : InsertedFrame} {rest : List InsertedFrame}
    {ch ch' : Channel} (h : ch.JournalLaw) (hj : ch.port.job = some ⟨began, .inserted o (f :: rest)⟩)
    (hjnl : ch'.jnl = ch.jnl) : (ch'.advance now o rest).JournalLaw := by
  have hlist : ch'.jnl.listLawful := hjnl ▸ h.list
  have hslots : ch'.jnl.slots.length = 8 := hjnl ▸ h.slots
  by_cases ho : ∃ n, o = .record n
  · obtain ⟨n, rfl⟩ := ho
    have hfill (m : BitVec 3) : ch'.jnl.slots[m.toNat]? = some .filling ↔ m = ch'.jnl.nextWrite ∧ m = n := by
      rw [hjnl, h.filling m, hj]
      simp [eq_comm]
    cases rest with
    | nil =>
      refine .of_noRecord hlist (by simpa [Channel.advance, Channel.endSequence] using hslots) (fun m hm => ?_) ?_
      · rcases (slots_set_filling hslots).1 hm with ⟨-, hx⟩ | ⟨hne, hx⟩
        · cases hx
        · exact hne ((hfill m).1 hx).2
      · exact fun _ _ _ => nofun
    | cons g rest =>
      obtain ⟨h1, h2, h3⟩ := hlist
      refine ⟨h1, h2, h3, hslots, fun m => ?_⟩
      refine (hfill m).trans (and_congr_right fun _ => ?_)
      simp [Channel.advance, eq_comm]
  · have hport : ch.port.NoRecord := fun b n fs hx => ho ⟨n, by rw [hj] at hx; cases hx; rfl⟩
    have hno : ch'.jnl.NoFilling := hjnl ▸ h.noFilling hport
    cases rest with
    | nil =>
      cases o with
      | record n => exact absurd ⟨n, rfl⟩ ho
      | learning | upkeep | summary => exact .of_noRecord hlist hslots hno fun _ _ _ => nofun
    | cons g rest =>
      refine .of_noRecord hlist hslots hno fun b n fs hx => ho ⟨n, ?_⟩
      cases hx
      rfl

/-- A record sequence begins in a free port: its slot alone is being filled (R165). -/
theorem Channel.startRecord_journalLaw {now : Nat} {page : Nibble} {ch : Channel} (h : ch.JournalLaw)
    (hj : ch.port.job = none) : (ch.startRecord now page).JournalLaw := by
  obtain ⟨h1, h2, h3⟩ := h.list
  have hno : ch.jnl.NoFilling := h.noFilling fun _ _ _ hx => by rw [hj] at hx; cases hx
  unfold Channel.startRecord
  split
  · next p rest hp =>
    rw [hp] at h1 h2 h3
    refine ⟨(Nat.le_succ _).trans h1, (List.pairwise_cons.1 h2).2, fun x hx => h3 x (List.mem_cons_of_mem _ hx), ?_,
      fun m => ?_⟩
    · simpa [Channel.startJob] using h.slots
    · refine (slots_set_filling h.slots).trans ?_
      constructor
      · rintro (⟨rfl, -⟩ | ⟨-, hm⟩)
        · exact ⟨rfl, _, _, rfl⟩
        · exact absurd hm (hno m)
      · rintro ⟨rfl, -⟩
        exact .inl ⟨rfl, rfl⟩
  · exact h

theorem State.Frame.journalLaw {c : Chan} {s : State} {i : Instr} {ch' : Channel} (h : s.Frame c i ch')
    (hl : (s.ch c).JournalLaw) : ch'.JournalLaw := by
  have granted {w : Work} {now : Nat} {work : PortWork} (h : s.choice c = some w)
      (hw : ∀ n frames, work ≠ .inserted (.record n) frames) : ((s.ch c).startJob now work).JournalLaw := by
    have hj := (State.choice_eq_some h).2.2.1
    refine .of_noRecord hl.list hl.slots (hl.noFilling fun _ _ _ hx => by rw [hj] at hx; cases hx) fun b n fs hx => ?_
    cases hx
    exact hw n fs rfl
  cases h with
  | grantRelayed h => exact granted h fun _ _ => nofun
  | grantLearning h =>
    have := granted (now := s.now) (work := .inserted .learning [.readPage, .readHead]) h fun _ _ => nofun
    exact ⟨this.pending, this.keys, this.counts, this.slots, this.filling⟩
  | grantUpkeep h =>
    unfold Channel.startUpkeep
    split
    · exact granted h fun _ _ => nofun
    · exact hl
  | grantRecord h => exact Channel.startRecord_journalLaw hl (State.choice_eq_some h).2.2.1
  | grantSummary h => exact granted h fun _ _ => nofun
  | learnPage h | pageSelected h | upkeepWritten h | recordWritten h | summaryWritten h =>
    obtain ⟨-, began, hj, -⟩ := State.insertedDue_eq_some.1 h
    exact Channel.advance_journalLaw hl hj rfl
  | learnHead h =>
    obtain ⟨-, began, hj, -⟩ := State.insertedDue_eq_some.1 h
    exact Channel.advance_journalLaw hl hj (by simp [Channel.setHeadSel])

/-- A preamplifier reset frees every slot and posts its event (R170). -/
theorem Journal.preampReset_lawful {j : Journal} (h : j.listLawful) :
    j.preampReset.listLawful ∧ j.preampReset.slots.length = 8 ∧ j.preampReset.NoFilling := by
  refine ⟨Journal.post_listLawful _ _ _ _ h, by simp [Journal.preampReset], fun n hn => ?_⟩
  have := List.mem_of_getElem? hn
  simp [Journal.preampReset] at this

theorem WriteKind.dress_jnl {k : WriteKind} (h : k ≠ .preampReset) (addr : Addr) (data : Byte) (ch : Channel) :
    (k.dress addr data ch).jnl = ch.jnl := by
  cases k with
  | preampReset => exact absurd rfl h
  | _ => rfl

/-- A slot that is freed was occupied (R166). -/
theorem Journal.freeSlot_noFilling {j : Journal} {n : BitVec 3} (hs : j.slots.length = 8) (h : j.NoFilling) :
    (j.freeSlot n).NoFilling ∧ (j.freeSlot n).slots.length = 8 := by
  unfold Journal.freeSlot
  split
  · refine ⟨fun m hm => ?_, by simpa using hs⟩
    rcases (slots_set_filling hs).1 hm with ⟨-, hx⟩ | ⟨-, hx⟩
    · cases hx
    · exact h m hx
  · exact ⟨h, hs⟩

/-- A delivered read frees a slot or clears the dropped flag at most (R166, R168). -/
theorem readEffect_jnl {l : LoadedCopy} {addr : Addr} {hold : ReadHold} {byte : Byte} {ch : Channel}
    (hl : ch.jnl.listLawful) (hs : ch.jnl.slots.length = 8) (h : ch.jnl.NoFilling) :
    (readEffect l addr hold byte ch).jnl.listLawful ∧ (readEffect l addr hold byte ch).jnl.slots.length = 8 ∧
      (readEffect l addr hold byte ch).jnl.NoFilling := by
  have temperature : (ch.deliverTemperature l addr byte).jnl = ch.jnl := by
    unfold Channel.deliverTemperature; split <;> rfl
  have slot {x : Channel} (hx : x.jnl = ch.jnl) : (x.deliverSlot l addr).jnl.listLawful ∧
      (x.deliverSlot l addr).jnl.slots.length = 8 ∧ (x.deliverSlot l addr).jnl.NoFilling := by
    unfold Channel.deliverSlot
    split
    · next n _ =>
      show (x.jnl.freeSlot n).listLawful ∧ _ ∧ (x.jnl.freeSlot n).NoFilling
      obtain ⟨hno, hlen⟩ := Journal.freeSlot_noFilling (n := n) (hx ▸ hs) (hx ▸ h)
      refine ⟨?_, hlen, hno⟩
      unfold Journal.freeSlot
      split <;> exact hx ▸ hl
    · exact hx ▸ ⟨hl, hs, h⟩
  unfold readEffect
  split
  · exact ⟨hl, hs, h⟩
  · unfold Channel.deliverRead Channel.deliverSummary
    split <;> exact slot temperature

theorem State.Answer.journalLaw {c : Chan} {s t : State} {i : Instr} (h : s.Answer c i t)
    (hl : (s.ch c).JournalLaw) : (t.ch c).JournalLaw := by
  have idle {began : Nat} {page : Option Nibble} (hj : (s.ch c).port.job = some ⟨began, .relayed page⟩) :
      (s.ch c).jnl.NoFilling := hl.noFilling fun _ _ _ hx => by rw [hj] at hx; cases hx
  cases h with
  | unchanged => exact hl
  | move _ h => rw [State.upd_ch]; exact hl.of_posts h.local.posts h.local.port
  | frame _ h => rw [State.upd_ch]; exact h.journalLaw hl
  | @write k page addr data _ hw _ =>
    obtain ⟨-, -, began, hj, -⟩ := hw
    rw [State.delivered_ch, WriteKind.effect_eq]
    have hd : (k.dress addr data (s.ch c)).jnl.listLawful ∧ (k.dress addr data (s.ch c)).jnl.slots.length = 8 ∧
        (k.dress addr data (s.ch c)).jnl.NoFilling := by
      by_cases hk : k = .preampReset
      · subst hk; exact Journal.preampReset_lawful hl.list
      · rw [k.dress_jnl hk]; exact ⟨hl.list, hl.slots, idle hj⟩
    obtain ⟨hslots, -, -, hlist⟩ :=
      (k.plan_planned (now := s.now) (start := false) (k.dress addr data (s.ch c))).posts.keeps
    refine .of_noRecord (hlist hd.1) (hslots ▸ hd.2.1) (fun n => ?_) fun _ _ _ => nofun
    rw [hslots]
    exact hd.2.2 n
  | @read k byte addr hold _ hr _ =>
    obtain ⟨-, -, began, page, hj, -⟩ := hr
    obtain ⟨h1, h2, h3⟩ := readEffect_jnl (l := s.loaded) (addr := addr) (hold := hold) (byte := byte) hl.list hl.slots
      (idle hj)
    have := Channel.JournalLaw.of_noRecord
      (ch := (readEffect s.loaded addr hold byte (s.ch c)).freePort) h1 h2 h3 fun _ _ _ => nofun
    cases c <;> exact this

/-! ## The monitor -/

/-- The monitor's settings in range (R125). -/
def ChannelFields.MonLawful (f : ChannelFields) : Prop :=
  f.monPeriod ∈ [32, 64, 128, 256] ∧ 1 ≤ f.nLoss ∧ f.nLoss ≤ 15 ∧ f.settle ≤ 3

theorem Channel.monitorLaw_iff {ch : Channel} :
    ch.MonitorLaw ↔ ch.mon.Lawful ch.lvl.heated ∧ ch.set.MonLawful :=
  ⟨fun h => ⟨⟨h.timer, h.cold, h.counts, h.since⟩, h.settings⟩,
    fun ⟨h, hs⟩ => ⟨h.timer, h.cold, h.counts, h.since, hs⟩⟩

theorem Monitor.Lawful.of_armed {heated : Bool} {m m' : Monitor} (h : m.Lawful heated)
    (he : { m' with armed := m.armed } = m) : m'.Lawful heated := by
  rw [← he] at h
  exact ⟨h.timer, h.cold, h.counts, h.since⟩

theorem Channel.Touched.monLawful {ch ch' : Channel} (h : ch.Touched ch') (hm : ch.mon.Lawful ch.lvl.heated) :
    ch'.mon.Lawful ch'.lvl.heated := by
  rw [h.lvl]; exact hm.of_armed h.monitor

theorem State.Factors.monLawful {c : Chan} {s : State} {i : Instr} {ch : Channel} (h : s.Factors c i ch)
    (hi : ∀ lines, i ≠ .monitorSample c lines) (hm : (s.ch c).mon.Lawful (s.ch c).lvl.heated) :
    ch.mon.Lawful ch.lvl.heated := by
  obtain ⟨ch₁, ch₂, start, hopen, hplan, hdress, -⟩ := h
  refine hdress.monLawful (hplan.monitor ?_)
  rcases hopen.prep_or_touched with h | h
  · cases h with
    | sampled => exact absurd rfl (hi _)
    | fallen => rw [Channel.takeFall_frame]; exact hm
    | _ => exact hm
  · exact h.monLawful hm

/-- A heated level is driven for a record, so a declaration finds a plan that can fault (R108). -/
theorem Channel.PlanLaw.serving_of_heated {ch : Channel} (h : ch.PlanLaw) (hh : ch.lvl.heated = true) :
    ch.plan ≠ .parked ∧ ch.plan ≠ .halted ∧ ch.plan ≠ .fault := by
  have off {p : PlanState} (hp : p ∈ [PlanState.halted, .fault, .parked]) : ch.plan ≠ p := by
    rintro rfl
    rw [h.off hp] at hh; cases hh
  exact ⟨off (by decide), off (by decide), off (by decide)⟩

/-- The end of a heated stretch (R103). -/
theorem Monitor.follow_off {old : Level} (h : old.heated = true) (now period : Nat) (m : Monitor) :
    m.follow old .off now period = { m with due := none, low := 0, high := 0 } := by
  unfold Monitor.follow
  rw [if_neg (by decide), if_pos h]

theorem Channel.shutDown_mon (now : Nat) (p : PlanState) (cut : CutReason) (why : RefuseReason) (ch : Channel) :
    (ch.shutDown now p cut why).mon = ch.mon.follow ch.lvl .off now ch.set.monPeriod := by
  simp [Channel.shutDown]

/-- A sample keeps the monitor lawful: it stays below the counts that declare, or ends the stretch (R104 to R108). -/
theorem Channel.takeSample_monLawful {now : Nat} {lines : BitVec 2} {ch : Channel} (hp : ch.PlanLaw)
    (hm : ch.MonitorLaw) (hdue : hasCome now ch.mon.due = true) :
    (ch.takeSample now lines).mon.Lawful (ch.takeSample now lines).lvl.heated := by
  have hheated : ch.lvl.heated = true := by
    rw [← hm.timer]
    cases hd : ch.mon.due with
    | none => rw [hd] at hdue; cases hdue
    | some t => rfl
  obtain ⟨m, hmdue, hsince, ⟨he, hcounts⟩ | ⟨k, he⟩⟩ := ch.takeSample_cases now lines <;> rw [he]
  · exact ⟨by rw [hmdue, hheated]; rfl, fun hc => (by rw [hheated] at hc; cases hc),
      hcounts hm.counts.1 hm.counts.2 hm.settings.2.2.1, hsince⟩
  · obtain ⟨h1, h2, h3⟩ := hp.serving_of_heated hheated
    unfold Channel.enterFault
    rw [if_neg (by simp [h1, h2, h3])]
    rw [Channel.shutDown_mon]
    simp only [Channel.post_fields]
    rw [Monitor.follow_off hheated]
    exact ⟨rfl, fun _ => ⟨rfl, rfl⟩, ⟨Nat.succ_pos 14, Nat.succ_pos 1⟩, hsince⟩

/-- The monitor register's fields are in range (R125). -/
theorem ChannelFields.writeMonitor_monLawful (data : Byte) (f : ChannelFields) : (f.writeMonitor data).MonLawful := by
  have hlt := data.isLt
  refine ⟨?_, le_max_left _ _, ?_, ?_⟩
  · have hq : data.toNat / 64 < 4 := by omega
    show 32 * 2 ^ (data.toNat / 64) ∈ [32, 64, 128, 256]
    generalize data.toNat / 64 = q at hq
    interval_cases q <;> decide
  · show max 1 (data.toNat / 4 % 16) ≤ 15
    omega
  · show data.toNat % 4 ≤ 3
    omega

theorem ChannelFields.writeHeat_monLawful (addr : Addr) (data : Byte) {f : ChannelFields} (h : f.MonLawful) :
    (f.writeHeat addr data).MonLawful := by
  unfold ChannelFields.writeHeat
  repeat' split
  all_goals exact h

theorem WriteKind.dress_monLawful (k : WriteKind) (addr : Addr) (data : Byte) {ch : Channel} (h : ch.set.MonLawful) :
    (k.dress addr data ch).set.MonLawful := by
  cases k with
  | monitorRegister => exact ch.set.writeMonitor_monLawful data
  | heatSetting => exact ch.set.writeHeat_monLawful addr data h
  | _ => exact h

/-- Every answer keeps the settings in range. -/
theorem State.Answer.set_monLawful {c : Chan} {s t : State} {i : Instr} (h : s.Answer c i t)
    (hs : (s.ch c).set.MonLawful) : (t.ch c).set.MonLawful := by
  cases h with
  | unchanged => exact hs
  | move _ h => rw [State.upd_ch, h.local.set]; exact hs
  | frame _ h => rw [State.upd_ch, h.unserved.set]; exact hs
  | @write k page addr data =>
    rw [State.delivered_ch, WriteKind.effect_eq]
    have := (k.plan_planned (now := s.now) (start := false) (k.dress addr data (s.ch c))).set
    exact this ▸ k.dress_monLawful addr data hs
  | @read k byte addr hold =>
    have he : (readEffect s.loaded addr hold byte (s.ch c)).set = (s.ch c).set := by
      unfold readEffect; split <;> simp
    cases c <;> exact he ▸ hs

theorem State.Answer.monitorLaw {c : Chan} {s t : State} {i : Instr} (h : s.Answer c i t)
    (hp : (s.ch c).PlanLaw) (hm : (s.ch c).MonitorLaw) : (t.ch c).MonitorLaw := by
  refine Channel.monitorLaw_iff.2 ⟨?_, h.set_monLawful (Channel.monitorLaw_iff.1 hm).2⟩
  by_cases hi : ∃ lines, i = .monitorSample c lines
  · obtain ⟨lines, rfl⟩ := hi
    cases h with
    | unchanged => exact (Channel.monitorLaw_iff.1 hm).1
    | move _ h =>
      cases h with
      | sample hdue => rw [State.upd_ch]; exact Channel.takeSample_monLawful hp hm hdue
    | frame _ h => cases h
    | @write k _ _ _ hk => cases k <;> cases hk
    | @read k _ _ _ hk => cases k <;> cases hk
  · exact h.factors.monLawful (fun lines hl => hi ⟨lines, hl⟩) (Channel.monitorLaw_iff.1 hm).1

/-! ## The heats -/

/-- A head entry whose L0 is in range. -/
def HeadEntry.L0Lawful (e : HeadEntry) : Prop := ∀ l, e.l0 = some l → l ≤ 400

theorem HeadEntry.writeByte_l0 (addr : Addr) (data : Byte) (e : HeadEntry) : (e.writeByte addr data).l0 = e.l0 := by
  unfold HeadEntry.writeByte
  repeat' split
  all_goals rfl

theorem HeadEntry.writeLow_l0 (addr : Addr) (data : Byte) (e : HeadEntry) : (e.writeLow addr data).l0 = e.l0 := by
  unfold HeadEntry.writeLow
  repeat' split
  all_goals rfl

theorem HeadEntry.writeHigh_l0 (addr : Addr) (data : Byte) {e : HeadEntry} (h : e.L0Lawful) :
    (e.writeHigh addr data).L0Lawful := by
  unfold HeadEntry.writeHigh
  split
  · intro l hl
    cases hl
    exact Nat.min_le_left ..
  · split <;> exact h

/-- A write that keeps each entry's law keeps that of all the entries it is directed to (R116). -/
theorem writeHeads_l0 {f : HeadEntry → HeadEntry} (hf : ∀ e : HeadEntry, e.L0Lawful → (f e).L0Lawful)
    (sel : Option Nibble) {heads : List Head} (h : ∀ x ∈ heads, x.cal.L0Lawful) :
    ∀ x ∈ writeHeads sel f heads, x.cal.L0Lawful := by
  unfold writeHeads
  split
  · split
    · intro x hx
      obtain ⟨y, hy, rfl⟩ := List.mem_map.1 hx
      exact hf _ (h y hy)
    · intro x hx
      obtain ⟨i, hi⟩ := List.mem_iff_getElem?.1 hx
      rw [List.getElem?_modify] at hi
      obtain ⟨y, hy, rfl⟩ := Option.map_eq_some_iff.1 hi
      have := h y (List.mem_of_getElem? hy)
      split
      · exact hf _ this
      · exact this
  · exact h

theorem WriteKind.dress_l0 (k : WriteKind) (addr : Addr) (data : Byte) {ch : Channel}
    (h : ∀ x ∈ ch.heads, x.cal.L0Lawful) : ∀ x ∈ (k.dress addr data ch).heads, x.cal.L0Lawful := by
  cases k with
  | headField => exact writeHeads_l0 (fun e he => by rw [HeadEntry.L0Lawful, e.writeByte_l0]; exact he) _ h
  | lowByte => exact writeHeads_l0 (fun e he => by rw [HeadEntry.L0Lawful, e.writeLow_l0]; exact he) _ h
  | highByte => exact writeHeads_l0 (fun e he => e.writeHigh_l0 addr data he) _ h
  | _ => exact h

theorem l0Lawful_of_cals {ch ch' : Channel} (hc : ch'.heads.map (·.cal) = ch.heads.map (·.cal))
    (h : ∀ x ∈ ch.heads, x.cal.L0Lawful) : ∀ x ∈ ch'.heads, x.cal.L0Lawful := by
  intro x hx
  have := List.mem_map_of_mem (f := fun h : Head => h.cal) hx
  rw [hc] at this
  obtain ⟨y, hy, he⟩ := List.mem_map.1 this
  exact he ▸ h y hy

/-- Every answer keeps the written L0s in range (R118). -/
theorem State.Answer.l0 {c : Chan} {s t : State} {i : Instr} (h : s.Answer c i t)
    (hs : ∀ x ∈ (s.ch c).heads, x.cal.L0Lawful) : ∀ x ∈ (t.ch c).heads, x.cal.L0Lawful := by
  cases h with
  | unchanged => exact hs
  | move _ h => rw [State.upd_ch]; exact l0Lawful_of_cals h.local.cals hs
  | frame _ h => rw [State.upd_ch, h.unserved.heads]; exact hs
  | @write k page addr data =>
    rw [State.delivered_ch, WriteKind.effect_eq]
    have := (k.plan_planned (now := s.now) (start := false) (k.dress addr data (s.ch c))).heads
    exact this ▸ k.dress_l0 addr data hs
  | @read k byte addr hold =>
    have he : (readEffect s.loaded addr hold byte (s.ch c)).heads = (s.ch c).heads := by
      unfold readEffect; split <;> simp
    cases c <;> exact he ▸ hs

/-- The law of the heats, of a channel by itself. -/
structure Channel.HeatLaw (now heads : Nat) (running : Prop) (ch : Channel) : Prop where
  heads : ch.heads.length = heads
  heat : ∀ h ∈ ch.heads, h.heat ≤ 65535
  l0 : ∀ h ∈ ch.heads, h.cal.L0Lawful
  tally : running → now ≤ ch.nextTick ∧ (ch.heads.map (·.tally.total)).sum + (ch.nextTick - now) ≤ ch.tickPeriod

theorem State.heatLaw_iff {c : Chan} {s : State} :
    s.HeatLaw c ↔ (s.ch c).HeatLaw s.now (s.loaded.heads c) (s.phase = .running) :=
  ⟨fun h => ⟨h.heads, fun x hx => (h.values x hx).1, fun x hx => (h.values x hx).2, h.tally⟩,
    fun h => ⟨h.heads, fun x hx => ⟨h.heat x hx, h.l0 x hx⟩, h.tally⟩⟩

/-- A tick leaves heats in range and an empty tally, and begins the next interval (R60, R63, R65). -/
theorem Channel.ticked_heatLaw {now heads : Nat} {running : Prop} {ch : Channel} (h : ch.HeatLaw now heads running) :
    (ch.ticked now).HeatLaw now heads running where
  heads := by rw [← h.heads]; exact List.length_map _
  heat := by
    intro x hx
    obtain ⟨y, hy, rfl⟩ := List.mem_map.1 hx
    exact Nat.min_le_left ..
  l0 := by
    intro x hx
    obtain ⟨y, hy, rfl⟩ := List.mem_map.1 hx
    exact h.l0 y hy
  tally _ := by
    have hzero : ((ch.ticked now).heads.map (·.tally.total)).sum = 0 := by
      show ((ch.heads.map (Head.tick ch.set)).map _).sum = 0
      rw [List.map_map]
      exact List.sum_eq_zero fun x hx => by
        obtain ⟨y, -, rfl⟩ := List.mem_map.1 hx
        rfl
    have ht : (ch.ticked now).nextTick = now + (ch.ticked now).tickPeriod := rfl
    rw [hzero, ht]
    omega

theorem State.Answer.heatLaw {c : Chan} {s t : State} {i : Instr} (h : s.Answer c i t)
    {heads : Nat} {running : Prop} (hl : (s.ch c).HeatLaw s.now heads running) :
    (t.ch c).HeatLaw s.now heads running := by
  by_cases hi : i = .heatTick c
  · subst hi
    cases h with
    | unchanged => exact hl
    | move _ h =>
      cases h with
      | heatTick =>
        rw [State.upd_ch, Channel.takeTick_eq]
        obtain ⟨h1, h2, h3, h4⟩ := Channel.ticked_heatLaw hl
        constructor <;> simpa
    | frame _ h => cases h
    | @write k _ _ _ hk => cases k <;> cases hk
    | @read k _ _ _ hk => cases k <;> cases hk
  · have hl0 := h.l0 hl.l0
    obtain ⟨ch₁, ch₂, start, hopen, hplan, hdress, -⟩ := h.factors
    obtain ⟨hheats, htallies, hnext, hperiod⟩ := ((hopen.sameHeat hi).trans hplan.sameHeat).trans hdress.sameHeat
    refine ⟨?_, ?_, hl0, fun hr => ?_⟩
    · rw [← hl.heads, ← List.length_map (f := (·.heat)), hheats, List.length_map]
    · intro x hx
      have := List.mem_map_of_mem (f := fun h : Head => h.heat) hx
      rw [hheats] at this
      obtain ⟨y, hy, he⟩ := List.mem_map.1 this
      exact he ▸ hl.heat y hy
    · have htotal : (t.ch c).heads.map (·.tally.total) = (s.ch c).heads.map (·.tally.total) := by
        have := congrArg (List.map Tally.total) htallies
        rwa [List.map_map, List.map_map] at this
      rw [htotal, hnext, hperiod]
      exact hl.tally hr

end Sys2Proof.Machine
end

section
/-! SUPPORT. The law of the plan through every command (R19, R28 to R31, R40 to R50, R56). -/

namespace Sys2Proof.Machine

/-! ## The oldest served record of a changed queue -/

/-- A change of records that serves none anew keeps the oldest served record, if it still is. -/
theorem find?_served_map {g : BurstRecord → BurstRecord} (hg : ∀ x : BurstRecord, (g x).served = true → x.served = true)
    {q : List BurstRecord} {y : BurstRecord} (h : q.find? (·.served) = some y) (hy : (g y).served = true) :
    (q.map g).find? (·.served) = some (g y) := by
  induction q with
  | nil => cases h
  | cons x q ih =>
    rw [List.find?_cons] at h
    rw [List.map_cons, List.find?_cons]
    split at h
    · cases h; rw [hy]
    · next hx =>
      have hgx : (g x).served = false := Bool.eq_false_iff.2 fun hgx => by rw [hg x hgx] at hx; cases hx
      rw [hgx]
      exact ih h

theorem find?_served_map_none {g : BurstRecord → BurstRecord}
    (hg : ∀ x : BurstRecord, (g x).served = true → x.served = true) {q : List BurstRecord}
    (h : q.find? (·.served) = none) : (q.map g).find? (·.served) = none := by
  rw [List.find?_eq_none] at h ⊢
  intro x hx hs
  obtain ⟨y, hy, rfl⟩ := List.mem_map.1 hx
  exact h y hy (hg y hs)

/-- Records that leave keep the oldest served record, if it stays. -/
theorem find?_served_filter {p : BurstRecord → Bool} {q : List BurstRecord} {y : BurstRecord}
    (h : q.find? (·.served) = some y) (hy : p y = true) : (q.filter p).find? (·.served) = some y := by
  induction q with
  | nil => cases h
  | cons x q ih =>
    rw [List.find?_cons] at h
    split at h
    · next hx => cases h; rw [List.filter_cons_of_pos hy, List.find?_cons, hx]
    · next hx =>
      by_cases hp : p x = true
      · rw [List.filter_cons_of_pos hp, List.find?_cons, hx]; exact ih h
      · rw [List.filter_cons_of_neg hp]; exact ih h

theorem find?_served_filter_none {p : BurstRecord → Bool} {q : List BurstRecord}
    (h : q.find? (·.served) = none) : (q.filter p).find? (·.served) = none := by
  rw [List.find?_eq_none] at h ⊢
  exact fun x hx => h x (List.mem_of_mem_filter hx)

namespace Channel

theorem isThe_iff {r : BurstRecord} {o : Option BurstRecord} :
    r.isThe o = true ↔ ∃ x, o = some x ∧ x.rise = r.rise := by
  simp [BurstRecord.isThe, Option.any_eq_true]

theorem isThe_front {ch : Channel} {r : BurstRecord} :
    r.isThe ch.front = true ↔ ch.front.map (·.rise) = some r.rise := by
  simp [isThe_iff]

/-- After the front record has left, the next record is the front record (R12). -/
theorem front_leave {ch : Channel} (hd : ch.RisesDistinct) {old : BurstRecord} (h : ch.front = some old) :
    (ch.leave old).front = ch.nextUp := by
  have hq : (ch.leave old).queue = ch.queue.filter (·.rise != old.rise) := by simp [Channel.leave]
  have split : ∃ pre post, ch.queue = pre ++ old :: post ∧ ∀ x ∈ pre, x.served = false := by
    obtain ⟨-, pre, post, hq, hpre⟩ := List.find?_eq_some_iff_append.1 h
    exact ⟨pre, post, hq, fun x hx => by simpa using hpre x hx⟩
  obtain ⟨pre, post, hqueue, hpre⟩ := split
  have hne : ∀ x ∈ pre ++ post, x.rise != old.rise := by
    rw [RisesDistinct, hqueue, List.map_append, List.map_cons, List.nodup_middle, List.nodup_cons] at hd
    intro x hx
    rw [bne_iff_ne]
    exact fun he => hd.1 (by rw [← List.map_append, ← he]; exact List.mem_map_of_mem hx)
  have hleft : ch.queue.filter (·.rise != old.rise) = pre ++ post := by
    have hpre' : pre.filter (·.rise != old.rise) = pre :=
      List.filter_eq_self.2 fun x hx => hne x (List.mem_append_left _ hx)
    have hpost' : post.filter (·.rise != old.rise) = post :=
      List.filter_eq_self.2 fun x hx => hne x (List.mem_append_right _ hx)
    rw [hqueue, List.filter_append, List.filter_cons_of_neg (by simp), hpre', hpost']
  have hnone : pre.filter (·.served) = [] := List.filter_eq_nil_iff.2 fun x hx => by simp [hpre x hx]
  unfold Channel.front Channel.nextUp
  rw [hq, hleft, hqueue, List.filter_append, hnone, List.nil_append,
    List.filter_cons_of_pos (front_served h), List.drop_one, List.tail_cons, List.head?_filter, List.find?_append,
    List.find?_eq_none.2 fun x hx => by simp [hpre x hx], Option.none_or]

/-! ## Bounds of the trim -/

/-- The upper bound of every record's trim is within the trim's range (R29, R78, R91). -/
def Bounded (ch : Channel) : Prop := ∀ r ∈ ch.queue, -32 ≤ r.upper ∧ r.upper ≤ 31

theorem QueueLaw.bounded {now delay : Nat} {ch : Channel} (h : ch.QueueLaw now delay) : ch.Bounded := by
  intro r hr
  unfold BurstRecord.upper
  split
  · next ha =>
    obtain ⟨k, hk, h1, h2⟩ := h.ceilings r hr ha
    rw [hk]
    show -32 ≤ min 31 k ∧ min 31 k ≤ 31
    omega
  · omega

theorem upper_congr {r r' : BurstRecord} (ho : r'.outcome = r.outcome) (hc : r'.ceiling = r.ceiling) :
    r'.upper = r.upper := by
  unfold BurstRecord.upper; rw [BurstRecord.isAccepted_congr ho, hc]

theorem servedLevel_congr {r r' : BurstRecord} (ho : r'.outcome = r.outcome) (p : PlanState) :
    servedLevel p r' = servedLevel p r := by
  unfold servedLevel; rw [BurstRecord.isAccepted_congr ho]

theorem clamp_bounds {lo hi : Int} (h : lo ≤ hi) (x : Int) : lo ≤ clamp lo hi x ∧ clamp lo hi x ≤ hi := by
  unfold clamp; omega

/-- The channel may run: it is not halted and has heads (R49, R56). -/
structure Runs (ch : Channel) : Prop where
  mode : ch.set.mode ≠ .halt
  heads : ch.heads ≠ []

theorem PlanLaw.runs {ch : Channel} (h : ch.PlanLaw) (hp : ch.plan ≠ .parked) (hh : ch.plan ≠ .halted) : ch.Runs :=
  ⟨fun hm => hh ((h.halt hp).1 hm), fun he => hp (h.parked.2 he)⟩

theorem PlanLaw.runs_of_serving {ch : Channel} (h : ch.PlanLaw) (hs : ch.plan.serving = true) : ch.Runs :=
  h.runs (fun he => by rw [he] at hs; cases hs) (fun he => by rw [he] at hs; cases hs)

theorem Framed.runs {ch ch' : Channel} (h : ch.Framed ch') (hr : ch.Runs) : ch'.Runs :=
  ⟨h.set ▸ hr.mode, h.heads ▸ hr.heads⟩

theorem Planned.bounded {now : Nat} {start : Bool} {ch ch' : Channel} (h : ch.Planned now start ch')
    (hd : ch.RisesDistinct) (hb : ch.Bounded) : ch'.Bounded := by
  intro r' hr'
  obtain ⟨r, hr, hf⟩ := (h.keeps hd).queue.exists_of_mem hr'
  by_cases ha : r'.isAccepted = true
  · rw [upper_congr (hf.outcome_of_served (BurstRecord.served_of_isAccepted ha)) hf.ceiling]
    exact hb r hr
  · rw [BurstRecord.upper, if_neg ha]
    omega

/-! ## Entries into the plan states -/

variable {now : Nat} {ch : Channel}

theorem place_gate (p : PlanState) (l : Level) (trim : Int) (ch : Channel) :
    (ch.place now p l trim).dwg = true ↔ (ch.place now p l trim).lvl = .write := beq_iff_eq

theorem enterRest_planLaw (hr : ch.Runs) (hf : ch.front = none) : (ch.enterRest now).PlanLaw where
  gate := place_gate _ _ _ _
  servo := nofun
  served := nofun
  faded := nofun
  quiet _ := hf
  off := nofun
  rest _ := rfl
  wedge := nofun
  trim := by show (-32 : Int) ≤ 0 ∧ (0 : Int) ≤ 31; omega
  zero _ := rfl
  halt _ := ⟨fun hm => absurd hm hr.mode, nofun⟩
  parked := ⟨nofun, fun hh => absurd hh hr.heads⟩

theorem enterLead_planLaw (hr : ch.Runs) (hsg : ch.sg = false) {r : BurstRecord} (hf : ch.front = some r) :
    (ch.enterLead now).PlanLaw where
  gate := place_gate _ _ _ _
  servo _ := hsg
  served _ := ⟨r, hf, rfl, fun h => absurd rfl h⟩
  faded := nofun
  quiet h := by simp [Channel.enterLead] at h
  off h := by simp [Channel.enterLead] at h
  rest := nofun
  wedge := nofun
  trim := by show (-32 : Int) ≤ 0 ∧ (0 : Int) ≤ 31; omega
  zero _ := rfl
  halt _ := ⟨fun hm => absurd hm hr.mode, nofun⟩
  parked := ⟨nofun, fun hh => absurd hh hr.heads⟩

end Channel

end Sys2Proof.Machine
end

section
/-! SUPPORT. Every command of a channel keeps the law of the plan (R19, R28 to R31, R40 to R50, R56). -/

namespace Sys2Proof.Machine

namespace Channel

variable {now : Nat} {ch ch' : Channel}

/-! ## What the law of the plan looks at -/

/-- The plan and what it drives are as they were. -/
structure SameDrive (ch ch' : Channel) : Prop where
  dwg : ch'.dwg = ch.dwg
  lvl : ch'.lvl = ch.lvl
  plan : ch'.plan = ch.plan
  heldTrim : ch'.heldTrim = ch.heldTrim
  sg : ch.plan.serving = true → ch.sg = false → ch'.sg = false
  halt : ch.plan ≠ .parked → (ch'.set.mode = .halt ↔ ch.set.mode = .halt)
  heads : ch'.heads = [] ↔ ch.heads = []

/-- So is what the plan serves and may serve. -/
structure PlanMatch (ch ch' : Channel) : Prop extends ch.SameDrive ch' where
  front : ch.plan.serving = true → ∀ r, ch.front = some r →
    ∃ r', ch'.front = some r' ∧ r'.outcome = r.outcome ∧ r'.ceiling = r.ceiling ∧ (r.fall.isSome → r'.fall.isSome)
  none : ch.plan.serving = false → ch.plan ≠ .wedge → ch.front = none → ch'.front = none

theorem SameDrive.of_queue_eq (h : ch.SameDrive ch') (hq : ch'.queue = ch.queue) : ch.PlanMatch ch' where
  toSameDrive := h
  front _ r hr := ⟨r, by rw [Channel.front, hq]; exact hr, rfl, rfl, id⟩
  none _ _ hf := by rw [Channel.front, hq]; exact hf

/-- Records that keep their outcomes keep the front record. -/
theorem front_map {g : BurstRecord → BurstRecord} (hg : ∀ x, (g x).outcome = x.outcome)
    (hq : ch'.queue = ch.queue.map g) : ch'.front = ch.front.map g := by
  have hp : ((fun x : BurstRecord => x.served) ∘ g) = fun x => x.served :=
    funext fun x => BurstRecord.served_congr (hg x)
  rw [Channel.front, hq, List.find?_map, hp]
  rfl

theorem SameDrive.of_map (h : ch.SameDrive ch') {g : BurstRecord → BurstRecord}
    (hg : ∀ x, (g x).outcome = x.outcome ∧ (g x).ceiling = x.ceiling ∧ (x.fall.isSome → (g x).fall.isSome))
    (hq : ch'.queue = ch.queue.map g) : ch.PlanMatch ch' where
  toSameDrive := h
  front _ r hr := ⟨g r, by rw [front_map (fun x => (hg x).1) hq, hr]; rfl, hg r⟩
  none _ _ hf := by rw [front_map (fun x => (hg x).1) hq, hf]; rfl

/-- A record that joins behind takes nothing from the front record. -/
theorem front_append {r x : BurstRecord} (hq : ch'.queue = ch.queue ++ [x]) (h : ch.front = some r) :
    ch'.front = some r := by
  rw [Channel.front, hq, List.find?_append, show ch.queue.find? (·.served) = some r from h]
  rfl

/-- A plan that is not in REST keeps its law while it matches. -/
theorem PlanLaw.of_match (h : ch.PlanLaw) (hm : ch.PlanMatch ch')
    (hrest : ch.plan = .rest → ch'.restLevel = ch.restLevel) : ch'.PlanLaw := by
  obtain ⟨⟨dwg, lvl, plan, heldTrim, sg, halt, heads⟩, front, none⟩ := hm
  constructor <;> simp only [dwg, lvl, plan, heldTrim, heads]
  · exact h.gate
  · exact fun hs => sg hs (h.servo hs)
  · intro hs
    obtain ⟨r, hr, hl, ht⟩ := h.served hs
    obtain ⟨r', hr', ho, hc, -⟩ := front hs r hr
    exact ⟨r', hr', servedLevel_congr ho _ ▸ hl, upper_congr ho hc ▸ ht⟩
  · intro hp r' hr'
    have hs : ch.plan.serving = true := by rw [hp]; rfl
    obtain ⟨r, hr, -⟩ := h.served hs
    obtain ⟨x, hx, -, -, hf⟩ := front hs r hr
    rw [hx] at hr'
    cases hr'
    exact hf (h.faded hp r hr)
  · intro hp
    refine none ?_ ?_ (h.quiet hp)
    · simp only [List.mem_cons, List.not_mem_nil, or_false] at hp
      rcases hp with hp | hp | hp | hp <;> rw [hp] <;> rfl
    · rintro hw; rw [hw] at hp; simp at hp
  · exact h.off
  · exact fun hp => (h.rest hp).trans (hrest hp).symm
  · exact h.wedge
  · exact h.trim
  · exact h.zero
  · exact fun hp => (halt hp).trans (h.halt hp)
  · exact h.parked

theorem restLevel_congr (hmode : ch'.set.mode = ch.set.mode) (hband : ch'.set.band = ch.set.band)
    (hport : ch'.port.headSel = ch.port.headSel)
    (hcals : ch'.heads.map (·.cal) = ch.heads.map (·.cal)) : ch'.restLevel = ch.restLevel := by
  have hlen : ch'.heads.length = ch.heads.length := by simpa using congrArg List.length hcals
  have hhead : ch'.shadowHead = ch.shadowHead := by simp only [Channel.shadowHead, hport, hlen]
  have hentry : ∀ h, ch'.entry h = ch.entry h := by
    rintro (_ | n)
    · rfl
    · simp only [Channel.entry, ← List.getElem?_map, hcals]
  have htarget : ch'.target = ch.target := by simp only [Channel.target, hhead, hentry, hband]
  unfold Channel.restLevel
  rw [htarget, hmode]

theorem restLevel_of_set_eq (hset : ch'.set = ch.set) (hport : ch'.port.headSel = ch.port.headSel)
    (hcals : ch'.heads.map (·.cal) = ch.heads.map (·.cal)) : ch'.restLevel = ch.restLevel :=
  restLevel_congr (by rw [hset]) (by rw [hset]) hport hcals

/-- In REST the level follows the target and the mode (R30). -/
theorem PlanLaw.refreshRest (h : ch.PlanLaw) (hm : ch.PlanMatch ch') : (ch'.refreshRest now).PlanLaw := by
  unfold Channel.refreshRest
  split
  case isFalse hp => exact h.of_match hm fun hr => absurd (hm.plan.trans hr) hp
  next hp =>
  have hrest : ch.plan = .rest := hm.plan ▸ hp
  have hzero : ch.heldTrim = 0 := h.zero (by rw [hrest]; decide)
  have hlow : ch.dwg = false := by
    rw [Bool.eq_false_iff]
    exact fun hd => ch.restLevel_ne_write ((h.rest hrest).symm.trans (h.gate.1 hd))
  have hrun : ch.Runs := h.runs (by rw [hrest]; decide) (by rw [hrest]; decide)
  have hrun' : ch'.Runs :=
    ⟨fun hm' => hrun.mode ((hm.halt (by rw [hrest]; decide)).1 hm'), fun hh => hrun.heads (hm.heads.1 hh)⟩
  have hfront : ch'.front = none :=
    hm.none (by rw [hrest]; rfl) (by rw [hrest]; decide) (h.quiet (by rw [hrest]; decide))
  have he : ch'.drive now ch'.restLevel = ch'.enterRest now := by
    have h1 : ch'.heldTrim = 0 := hm.heldTrim.trans hzero
    have h2 : ch'.dwg = false := hm.dwg.trans hlow
    have h3 : (ch'.restLevel == .write) = false := beq_eq_false_iff_ne.2 ch'.restLevel_ne_write
    unfold Channel.enterRest Channel.place Channel.drive
    rw [h3, ← hp, ← h1, ← h2]
  rw [he]
  exact enterRest_planLaw hrun' hfront

/-! ## Entries that serve a record -/

/-- The plan may serve `r`: it runs with the servo gate low, and its front record has the outcome and ceiling of `r`. -/
structure CanServe (r : BurstRecord) (ch : Channel) : Prop where
  runs : ch.Runs
  sg : ch.sg = false
  bounded : ch.Bounded
  front : ∃ x, ch.front = some x ∧ x.outcome = r.outcome ∧ x.ceiling = r.ceiling

theorem CanServe.upper {r : BurstRecord} (h : ch.CanServe r) : -32 ≤ r.upper ∧ r.upper ≤ 31 := by
  obtain ⟨x, hx, ho, hc⟩ := h.front
  rw [← upper_congr ho hc]
  exact h.bounded x (front_mem hx)

/-- An entry into WARM, WRITE or FADE for the front record (R28, R29). -/
theorem CanServe.place {r : BurstRecord} (h : ch.CanServe r) {p : PlanState} (hp : p ∈ [.warm, .write, .fade])
    {trim : Int}
    (ht : -32 ≤ trim ∧ trim ≤ r.upper) (hfade : p = .fade → ∀ x, ch.front = some x → x.fall.isSome) :
    (ch.place now p (servedLevel p r) trim).PlanLaw := by
  have hu := h.upper
  obtain ⟨x, hx, ho, hc⟩ := h.front
  have out {q : PlanState} (hq : q ∉ [PlanState.warm, .write, .fade]) : p ≠ q := fun he => hq (he ▸ hp)
  constructor
  · exact place_gate _ _ _ _
  · exact fun _ => h.sg
  · exact fun _ => ⟨x, hx, (servedLevel_congr ho p).symm, fun _ => upper_congr ho hc ▸ ht.2⟩
  · exact hfade
  · intro hq
    simp [out (q := .rest), out (q := .halted), out (q := .fault), out (q := .parked)] at hq
  · intro hq
    simp [out (q := .halted), out (q := .fault), out (q := .parked)] at hq
  · exact fun hq => absurd hq (out (by decide))
  · exact fun hq => absurd hq (out (by decide))
  · exact ⟨ht.1, ht.2.trans hu.2⟩
  · exact fun hn => absurd hp hn
  · exact fun _ => ⟨fun hm => absurd hm h.runs.mode, fun hq => absurd hq (out (by decide))⟩
  · exact ⟨fun hq => absurd hq (out (by decide)), fun hh => absurd hh h.runs.heads⟩

theorem reportLimit_canServe {r x : BurstRecord} (h : ch.CanServe r) : (ch.reportLimit x).CanServe r := by
  obtain ⟨⟨hm, hh⟩, hs, hb, hf⟩ := h
  exact ⟨⟨by simpa using hm, by simpa using hh⟩, by simpa using hs, by simpa [Bounded] using hb,
    by simpa [Channel.front] using hf⟩

theorem reportShortWarm_canServe {delay : Nat} {r x : BurstRecord} (h : ch.CanServe r) :
    (ch.reportShortWarm now delay x).CanServe r := by
  obtain ⟨⟨hm, hh⟩, hs, hb, hf⟩ := h
  exact ⟨⟨by simpa using hm, by simpa using hh⟩, by simpa using hs, by simpa [Bounded] using hb,
    by simpa [Channel.front] using hf⟩

theorem CanServe.enterFresh {r : BurstRecord} (h : ch.CanServe r) {p : PlanState} (hp : p ∈ [.warm, .write]) :
    (ch.enterFresh now p r).PlanLaw :=
  (reportLimit_canServe h).place (List.mem_append_left [.fade] hp) (clamp_bounds h.upper.1 _)
    fun hf => by rw [hf] at hp; simp at hp

theorem CanServe.enterKept {r : BurstRecord} (h : ch.CanServe r) {p : PlanState} (hp : p ∈ [.warm, .write]) :
    (ch.enterKept now p r).PlanLaw :=
  h.place (List.mem_append_left [.fade] hp) (clamp_bounds h.upper.1 _) fun hf => by rw [hf] at hp; simp at hp

theorem CanServe.handOver {r : BurstRecord} (h : ch.CanServe r) {p : PlanState} (hp : p ∈ [.warm, .write])
    (old : BurstRecord) : (ch.handOver now p old r).PlanLaw := by
  unfold Channel.handOver
  split
  · exact h.enterFresh hp
  · exact h.enterKept hp

theorem placeAfter_planLaw (hr : ch.Runs) (hs : ch.sg = false) (hb : ch.Bounded) (delay : Nat) (old : BurstRecord) :
    (ch.placeAfter now delay old).PlanLaw := by
  unfold Channel.placeAfter
  split
  · next hf => exact enterRest_planLaw hr hf
  · next r hf =>
    split
    · exact CanServe.handOver ⟨hr, hs, hb, r, hf, rfl, rfl⟩ (by decide) old
    · exact enterLead_planLaw hr hs hf

theorem reaim_planLaw (hr : ch.Runs) (hs : ch.sg = false) (hb : ch.Bounded) (delay : Nat) :
    (ch.reaim now delay).PlanLaw := by
  unfold Channel.reaim
  split
  · next hf => exact enterRest_planLaw hr hf
  · next r hf =>
    have hc : ch.CanServe r := ⟨hr, hs, hb, r, hf, rfl, rfl⟩
    split
    · split
      · exact hc.enterKept (by decide)
      · exact (reportShortWarm_canServe hc).enterFresh (by decide)
    · exact enterLead_planLaw hr hs hf

/-! ## WEDGE, FAULT and HALTED -/

theorem enterWedge_planLaw (hr : ch.Runs) (fromRest : Bool) : (ch.enterWedge now fromRest).PlanLaw where
  gate := place_gate _ _ _ _
  servo := nofun
  served := nofun
  faded := nofun
  quiet h := by simp [Channel.enterWedge] at h
  off h := by simp [Channel.enterWedge] at h
  rest := nofun
  wedge _ := by
    show ch.wedgeLevel fromRest = _ ∨ ch.wedgeLevel fromRest = _
    unfold Channel.wedgeLevel
    split
    · exact .inr rfl
    · split
      · exact .inr rfl
      · exact .inl rfl
  trim := by show (-32 : Int) ≤ 0 ∧ (0 : Int) ≤ 31; omega
  zero _ := rfl
  halt _ := ⟨fun hm => absurd hm hr.mode, nofun⟩
  parked := ⟨nofun, fun hh => absurd hh hr.heads⟩

theorem front_eq_none_of_any (h : ch.queue.any (·.served) = false) : ch.front = none :=
  List.find?_eq_none.2 (List.any_eq_false.1 h)

theorem shutDown_queue (p : PlanState) (cut : CutReason) (why : RefuseReason) (ch : Channel) :
    (ch.shutDown now p cut why).queue = ((ch.truncateWriting now cut).refuseAll why).queue := rfl

theorem shutDown_planLaw {p : PlanState} {cut : CutReason} {why : RefuseReason} (hh : ch.heads ≠ [])
    (hp : p = .halted ∧ ch.set.mode = .halt ∨ p = .fault ∧ ch.set.mode ≠ .halt) :
    (ch.shutDown now p cut why).PlanLaw := by
  have hfront : (ch.shutDown now p cut why).front = none :=
    front_eq_none_of_any (by rw [shutDown_queue]; exact refuseAll_any_served why _)
  have hplan : (ch.shutDown now p cut why).plan = p := rfl
  have hmode : (ch.shutDown now p cut why).set.mode = ch.set.mode := by simp
  have hheads : (ch.shutDown now p cut why).heads = ch.heads := by simp
  have hoff : (ch.shutDown now p cut why).lvl = .off := rfl
  have hzero : (ch.shutDown now p cut why).heldTrim = 0 := rfl
  have hdwg : (ch.shutDown now p cut why).dwg = false := rfl
  constructor <;> simp only [hplan, hfront, hmode, hheads, hoff, hzero, hdwg]
  · decide
  · rcases hp with ⟨rfl, -⟩ | ⟨rfl, -⟩ <;> nofun
  · rcases hp with ⟨rfl, -⟩ | ⟨rfl, -⟩ <;> nofun
  · exact fun _ _ hr => by cases hr
  · exact fun _ => trivial
  · exact fun _ => trivial
  · rcases hp with ⟨rfl, -⟩ | ⟨rfl, -⟩ <;> nofun
  · exact fun _ => .inr trivial
  · decide
  · exact fun _ => trivial
  · rcases hp with ⟨rfl, hm⟩ | ⟨rfl, hm⟩ <;> simp [hm]
  · rcases hp with ⟨rfl, -⟩ | ⟨rfl, -⟩ <;> simp [hh]

end Channel
end Sys2Proof.Machine
end

section
/-! SUPPORT. Every command of a channel keeps the law of the plan, command by command (R19, R28 to R31, R40 to R50). -/

namespace Sys2Proof.Machine

namespace Channel

variable {now delay : Nat} {ch ch' : Channel}

theorem SameDrive.refl (ch : Channel) : ch.SameDrive ch := ⟨rfl, rfl, rfl, rfl, fun _ h => h, fun _ => .rfl, .rfl⟩

/-- A served record keeps a plan out of the states that serve and wait for none. -/
theorem Bounded.of_eq (h : ch.Bounded) (hq : ch'.queue = ch.queue) : ch'.Bounded := fun r hr => h r (hq ▸ hr)

/-! ## Rises -/

theorem refused_match {x : BurstRecord} (hx : x.served = false) (h : ch.SameDrive ch')
    (hq : ch'.queue = ch.queue ++ [x]) : ch.PlanMatch ch' where
  toSameDrive := h
  front _ r hr := ⟨r, front_append hq hr, rfl, rfl, id⟩
  none _ _ hf := by
    rw [Channel.front, hq, List.find?_append, show ch.queue.find? (·.served) = none from hf]
    simp [hx]

/-- The record of an accepted rise waits, or is taken up from REST (R31). -/
theorem enterService_planLaw {x : BurstRecord} (h : ch.PlanLaw) (hm : ch.set.mode ≠ .halt) (hf : ch.plan ≠ .fault)
    (hp : ch.plan ≠ .parked) (hx : x.served = true) (hs : ch.SameDrive ch')
    (hrest : ch'.restLevel = ch.restLevel) (hq : ch'.queue = ch.queue ++ [x]) : (ch'.enterService now).PlanLaw := by
  have hhalt : ch.plan ≠ .halted := fun he => hm ((h.halt hp).2 he)
  have hrun : ch'.Runs := ⟨fun hm' => hm ((hs.halt hp).1 hm'), fun hh => (h.runs hp hhalt).heads (hs.heads.1 hh)⟩
  unfold Channel.enterService
  split
  · next hr =>
    have hfront : ch'.front = some x := by
      have hnone := h.quiet (by rw [← hs.plan, hr]; decide)
      rw [Channel.front, hq, List.find?_append, show ch.queue.find? (·.served) = none from hnone]
      simp [hx]
    split
    · exact enterWedge_planLaw hrun true
    · next hlow => exact enterLead_planLaw hrun (by simpa using hlow) hfront
  · next hr =>
    refine h.of_match ⟨hs, fun _ r hr => ⟨r, front_append hq hr, rfl, rfl, id⟩, fun hns hw hfront => ?_⟩ fun _ => hrest
    rw [hs.plan] at hr
    cases hplan : ch.plan <;> simp_all [PlanState.serving]

theorem takeRise_planLaw (h : ch.PlanLaw) (held : Bool) (avail : Int) :
    (ch.takeRise now delay held avail).PlanLaw := by
  have hs : ch.SameDrive ch.risen := ⟨rfl, rfl, rfl, rfl, fun _ h => h, fun _ => .rfl, .rfl⟩
  have hrest : ∀ ch' : Channel, ch'.set = ch.set → ch'.port = ch.port → ch'.heads = ch.heads →
      ch'.restLevel = ch.restLevel := fun ch' h1 h2 h3 => restLevel_of_set_eq h1 (by rw [h2]) (by rw [h3])
  rcases ch.takeRise_cases now delay held avail with ⟨-, he⟩ | ⟨-, ⟨-, he⟩ | ⟨-, why, -, he⟩ | ⟨-, hw, he⟩⟩ <;> rw [he]
  · exact h.of_match (hs.of_queue_eq rfl) fun _ => hrest _ rfl rfl rfl
  · exact h.of_match (SameDrive.of_queue_eq ⟨rfl, rfl, rfl, rfl, fun _ h => h, fun _ => .rfl, .rfl⟩ rfl)
      fun _ => hrest _ rfl rfl rfl
  · refine h.of_match (refused_match (x := ch.risen.newRecord now (.refused why)) rfl ?_ rfl) fun _ =>
      hrest _ rfl rfl rfl
    exact ⟨rfl, rfl, rfl, rfl, fun _ h => h, fun _ => .rfl, .rfl⟩
  · have hacc := acceptable_of_refusal hw
    refine enterService_planLaw h hacc.mode hacc.fault hacc.parked (ch.risen.servedRecord_served now delay avail) ?_
      (hrest _ rfl rfl rfl) rfl
    exact ⟨rfl, rfl, rfl, rfl, fun _ h => h, fun _ => .rfl, .rfl⟩

/-! ## Falls and marks -/

theorem setFall_keeps (now : Nat) (x : BurstRecord) : (x.setFall now).outcome = x.outcome ∧
    (x.setFall now).ceiling = x.ceiling ∧ (x.fall.isSome → (x.setFall now).fall.isSome) := ⟨rfl, rfl, fun _ => rfl⟩

theorem takeFall_planLaw (h : ch.PlanLaw) (hq : ch.QueueLaw now delay) : (ch.takeFall now).PlanLaw := by
  unfold Channel.takeFall
  dsimp only
  have hs : ∀ (d : Bool) (q : List BurstRecord),
      ch.SameDrive { ch with uwg := false, uwgHeld := 0, disregard := d, queue := q } :=
    fun _ _ => ⟨rfl, rfl, rfl, rfl, fun _ h => h, fun _ => .rfl, .rfl⟩
  split
  · exact h.of_match ((hs _ _).of_queue_eq rfl) fun _ => restLevel_of_set_eq rfl rfl rfl
  · refine h.of_match ((hs _ _).of_map (setFall_keeps now) ?_) fun _ => restLevel_of_set_eq rfl rfl rfl
    exact setNewestFall_eq_map _ _ hq.fallen_but_newest

/-- A change of one record that keeps its outcome, its ceiling and a known fall. -/
theorem updRecord_match {rise : Nat} {f : BurstRecord → BurstRecord} (hf : ∀ x, (f x).outcome = x.outcome ∧
    (f x).ceiling = x.ceiling ∧ (x.fall.isSome → (f x).fall.isSome))
    (ch : Channel) : ch.PlanMatch (ch.updRecord rise f) := by
  refine SameDrive.of_map (g := fun x => if x.rise = rise then f x else x)
    ⟨rfl, rfl, rfl, rfl, fun _ h => h, fun _ => .rfl, .rfl⟩ (fun x => ?_) rfl
  split
  · exact hf x
  · exact ⟨rfl, rfl, id⟩

theorem updRecord_planLaw {rise : Nat} {f : BurstRecord → BurstRecord} (h : ch.PlanLaw)
    (hf : ∀ x, (f x).outcome = x.outcome ∧
    (f x).ceiling = x.ceiling ∧ (x.fall.isSome → (f x).fall.isSome)) : (ch.updRecord rise f).PlanLaw :=
  h.of_match (ch.updRecord_match hf) fun _ => restLevel_of_set_eq rfl rfl rfl

/-- The record of a channel that a given one is, by its rise, once it has been marked. -/
theorem isThe_updRecord {f : BurstRecord → BurstRecord} (hd : ch.RisesDistinct) {r x : BurstRecord}
    (hr : r ∈ ch.queue) (hx : x ∈ (ch.updRecord r.rise f).queue) (he : x.rise = r.rise) : x = f r := by
  obtain ⟨y, hy, rfl⟩ := List.mem_map.1 hx
  have hyr : y.rise = r.rise := by
    split at he
    · assumption
    · exact he
  rw [if_pos hyr, hd.eq hr hy hyr]

/-! ## Truncation -/

/-- A truncation of a record that the plan does not serve (R21). -/
theorem truncate_planLaw (h : ch.PlanLaw) {why : CutReason} {r : BurstRecord}
    (hf : ch.plan.serving = true → ¬ r.isThe ch.front = true) : (ch.truncate now why r).PlanLaw := by
  have hw : ch.isWriting r = false := by
    rw [Bool.eq_false_iff]
    intro hw
    simp only [Channel.isWriting, Bool.and_eq_true, beq_iff_eq] at hw
    exact hf (by rw [hw.1]; rfl) hw.2
  have hq : (ch.truncate now why r).queue =
      ch.queue.map fun x => if x.rise = r.rise then { x with outcome := .truncated why now } else x := by
    simp [Channel.truncate]
  have hg : ∀ x : BurstRecord, (if x.rise = r.rise then { x with outcome := .truncated why now } else x).served = true →
      x.served = true := by
    intro x hx
    split at hx
    · cases hx
    · exact hx
  refine h.of_match ⟨⟨?_, ?_, ?_, ?_, ?_, ?_, ?_⟩, fun hs x hx => ?_, fun _ _ hn => ?_⟩ fun _ =>
    restLevel_of_set_eq ?_ ?_ ?_
  · simp [Channel.truncate, hw]
  case refine_8 =>
    have hne : x.rise ≠ r.rise := fun he => hf hs (isThe_iff.2 ⟨x, hx, he⟩)
    refine ⟨x, ?_, rfl, rfl, id⟩
    have := find?_served_map hg hx (by rw [if_neg hne]; exact front_served hx)
    rw [if_neg hne] at this
    rw [Channel.front, hq]
    exact this
  case refine_9 =>
    rw [Channel.front, hq]
    exact find?_served_map_none hg hn
  all_goals simp [Channel.truncate]

/-! ## Expiries -/

theorem mark_keeps (f : BurstRecord → BurstRecord)
    (hf : ∀ r, ∃ w v e t, f r = { r with warmTaken := w, startTaken := v, endTaken := e, tailEnd := t })
      (x : BurstRecord) :
    (f x).outcome = x.outcome ∧ (f x).ceiling = x.ceiling ∧ (x.fall.isSome → (f x).fall.isSome) := by
  obtain ⟨w, v, e, t, h⟩ := hf x
  rw [h]
  exact ⟨rfl, rfl, id⟩

theorem nextUp_mem {r : BurstRecord} (h : ch.nextUp = some r) : r ∈ ch.queue :=
  (List.mem_filter.1 (List.mem_of_mem_drop (List.mem_of_mem_head? h))).1

theorem PlanLaw.canServe (h : ch.PlanLaw) (hb : ch.Bounded) (hs : ch.plan.serving = true) {r x : BurstRecord}
    (hx : ch.front = some x) (ho : x.outcome = r.outcome) (hc : x.ceiling = r.ceiling) : ch.CanServe r :=
  ⟨h.runs_of_serving hs, h.servo hs, hb, x, hx, ho, hc⟩

/-- Once the front record has left, the plan may serve the next one (R34, R36). -/
theorem PlanLaw.canServe_leave (h : ch.PlanLaw) (hd : ch.RisesDistinct) (hb : ch.Bounded) (hs : ch.plan.serving = true)
    {old r x : BurstRecord} (hold : ch.front = some old) (hx : ch.nextUp = some x) (ho : x.outcome = r.outcome)
    (hc : x.ceiling = r.ceiling) : (ch.leave old).CanServe r := by
  have hp : ch.Planned 0 false (ch.leave old) := ch.leave_planned old
  exact ⟨hp.toFramed.runs (h.runs_of_serving hs), hp.sg.trans (h.servo hs), hp.bounded hd hb, x,
    (front_leave hd hold).trans hx, ho, hc⟩

/-- The Planner at a warm start that it acts on, in LEAD and in FADE (R33, R34). -/
theorem warmExpiry_planLaw (h : ch.PlanLaw) (hd : ch.RisesDistinct) (hb : ch.Bounded) {r : BurstRecord}
    (hr : ∀ x ∈ ch.queue, x.rise = r.rise → x.outcome = r.outcome ∧ x.ceiling = r.ceiling) :
    (ch.warmExpiry now r).PlanLaw := by
  unfold Channel.warmExpiry
  split
  · next hc =>
    obtain ⟨x, hx, he⟩ := isThe_iff.1 hc.2
    obtain ⟨ho, hk⟩ := hr x (front_mem hx) he
    exact (h.canServe hb (by rw [hc.1]; rfl) hx ho hk).enterFresh (by decide)
  split
  · next hc =>
    obtain ⟨x, hx, he⟩ := isThe_iff.1 hc.2
    obtain ⟨ho, hk⟩ := hr x (nextUp_mem hx) he
    split
    · next old hold => exact (h.canServe_leave hd hb (by rw [hc.1]; rfl) hold hx ho hk).handOver (by decide) old
    · exact h
  · exact h

/-- The Planner at a write start that it acts on, in WARM, LEAD and FADE (R35, R36). -/
theorem startWriting_planLaw (h : ch.PlanLaw) (hd : ch.RisesDistinct) (hb : ch.Bounded) {r : BurstRecord}
    (hr : ∀ x ∈ ch.queue, x.rise = r.rise → x.outcome = r.outcome ∧ x.ceiling = r.ceiling) :
    (ch.startWriting now r).PlanLaw := by
  unfold Channel.startWriting
  split
  · next hc =>
    have hs : ch.plan.serving = true := by rw [hc.1]; rfl
    obtain ⟨x, hx, he⟩ := isThe_iff.1 hc.2
    obtain ⟨ho, hk⟩ := hr x (front_mem hx) he
    obtain ⟨y, hy, -, ht⟩ := h.served hs
    rw [hx] at hy
    cases hy
    refine (h.canServe hb hs hx ho hk).place (by decide) ⟨h.trim.1, ?_⟩ nofun
    rw [← upper_congr ho hk]
    exact ht (by rw [hc.1]; decide)
  split
  · next hc =>
    obtain ⟨x, hx, he⟩ := isThe_iff.1 hc.2
    obtain ⟨ho, hk⟩ := hr x (front_mem hx) he
    exact (h.canServe hb (by rw [hc.1]; rfl) hx ho hk).enterFresh (by decide)
  split
  · next hc =>
    obtain ⟨x, hx, he⟩ := isThe_iff.1 hc.2
    obtain ⟨ho, hk⟩ := hr x (nextUp_mem hx) he
    split
    · next old hold => exact (h.canServe_leave hd hb (by rw [hc.1]; rfl) hold hx ho hk).handOver (by decide) old
    · exact h
  · exact h

section
variable {f : BurstRecord → BurstRecord}
  (hf : ∀ r, ∃ w v e t, f r = { r with warmTaken := w, startTaken := v, endTaken := e, tailEnd := t })
include hf

/-- A marked channel keeps what the acts of the Planner rely on. -/
theorem marked_keeps (h : ch.PlanLaw) (hd : ch.RisesDistinct) (hb : ch.Bounded) {r : BurstRecord} (hr : r ∈ ch.queue) :
    (ch.updRecord r.rise f).PlanLaw ∧ (ch.updRecord r.rise f).RisesDistinct ∧ (ch.updRecord r.rise f).Bounded ∧
      ∀ x ∈ (ch.updRecord r.rise f).queue, x.rise = r.rise → x = f r := by
  have hp : ch.Planned 0 false (ch.updRecord r.rise f) := ch.mark_planned r.rise hf
  exact ⟨updRecord_planLaw h (mark_keeps f hf), hp.risesDistinct hd, hp.bounded hd hb,
    fun x hx he => isThe_updRecord hd hr hx he⟩

end

theorem takeWarmStart_planLaw (h : ch.PlanLaw) (hd : ch.RisesDistinct) (hb : ch.Bounded) {r : BurstRecord}
    (hr : r ∈ ch.queue) : (ch.takeWarmStart now r).PlanLaw := by
  obtain ⟨hp, hd', hb', he⟩ := marked_keeps (f := fun x => { x with warmTaken := true }) (fun r =>
    ⟨_, _, _, _, rfl⟩) h hd hb hr
  unfold Channel.takeWarmStart
  dsimp only
  split
  · exact warmExpiry_planLaw hp hd' hb' fun x hx hxr => by rw [he x hx hxr]; exact ⟨rfl, rfl⟩
  · exact hp

theorem takeWriteStart_planLaw (h : ch.PlanLaw) (hd : ch.RisesDistinct) (hb : ch.Bounded) {r : BurstRecord}
    (hr : r ∈ ch.queue) : (ch.takeWriteStart now r).PlanLaw := by
  obtain ⟨hp, hd', hb', he⟩ := marked_keeps (f := fun x => { x with startTaken := true }) (fun r =>
    ⟨_, _, _, _, rfl⟩) h hd hb hr
  unfold Channel.takeWriteStart
  dsimp only
  split
  · split
    · next hsg =>
      refine truncate_planLaw hp fun hs => ?_
      rw [hp.servo hs] at hsg
      cases hsg
    · exact startWriting_planLaw hp hd' hb' fun x hx hxr => by rw [he x hx hxr]; exact ⟨rfl, rfl⟩
  · exact hp

/-- The plan leaves WRITE at the write end of the record it writes (R37). -/
theorem finishWrite_planLaw (h : ch.PlanLaw) (hd : ch.RisesDistinct) (hb : ch.Bounded) {r : BurstRecord}
    (hr : r ∈ ch.queue)
    (hw : ch.isWriting r = true) (hfall : r.fall.isSome) : (ch.finishWrite now delay r).PlanLaw := by
  simp only [Channel.isWriting, Bool.and_eq_true, beq_iff_eq] at hw
  obtain ⟨hwrite, hthe⟩ := hw
  have hs : ch.plan.serving = true := by rw [hwrite]; rfl
  unfold Channel.finishWrite
  dsimp only
  split
  · have hp : ch.Planned 0 false (ch.leave r) := ch.leave_planned r
    exact placeAfter_planLaw (hp.toFramed.runs (h.runs_of_serving hs)) (hp.sg.trans (h.servo hs)) (hp.bounded hd hb) _ _
  · generalize htail : (some (now + byteValue (ch.entry r.head).tail) : Option Nat) = tail
    obtain ⟨hp, -, hb', he⟩ := marked_keeps (f := fun x => { x with tailEnd := tail }) (fun r =>
      ⟨_, _, _, _, rfl⟩) h hd hb hr
    obtain ⟨y, hy, hye⟩ := isThe_iff.1 hthe
    have hyr : y = r := hd.eq hr (front_mem hy) hye
    subst hyr
    have hfront := (front_map (ch' := ch.updRecord y.rise fun x => { x with tailEnd := tail }) (fun x => ?_) rfl).trans
      (congrArg _ hy)
    · rw [Option.map_some, if_pos rfl] at hfront
      obtain ⟨z, hz, -, ht⟩ := hp.served hs
      rw [hfront] at hz
      cases hz
      refine (hp.canServe hb' hs hfront rfl rfl).place (by decide) ⟨hp.trim.1, ?_⟩ fun _ x hx => ?_
      · exact ht (fun hl => by rw [show (ch.updRecord y.rise _).plan = ch.plan from rfl, hwrite] at hl; cases hl)
      · rw [hfront] at hx
        cases hx
        exact hfall
    · dsimp only
      split <;> rfl

/-- A record that is not served leaves the plan as it was. -/
theorem leave_planLaw (h : ch.PlanLaw) (hd : ch.RisesDistinct) {r : BurstRecord} (hr : r ∈ ch.queue)
    (hs : r.served = false) : (ch.leave r).PlanLaw := by
  have hq : (ch.leave r).queue = ch.queue.filter (·.rise != r.rise) := by simp [Channel.leave]
  refine h.of_match ⟨⟨?_, ?_, ?_, ?_, ?_, ?_, ?_⟩, fun _ x hx => ?_, fun _ _ hn => ?_⟩ fun _ =>
    restLevel_of_set_eq ?_ ?_ ?_
  case refine_8 =>
    refine ⟨x, ?_, rfl, rfl, id⟩
    rw [Channel.front, hq]
    refine find?_served_filter hx ?_
    rw [bne_iff_ne]
    intro he
    rw [hd.eq hr (front_mem hx) he] at hx
    rw [front_served hx] at hs
    cases hs
  case refine_9 =>
    rw [Channel.front, hq]
    exact find?_served_filter_none hn
  all_goals simp

theorem takeWriteEnd_planLaw (h : ch.PlanLaw) (hd : ch.RisesDistinct) (hb : ch.Bounded) {r : BurstRecord}
    (hr : r ∈ ch.queue) (hfall : r.fall.isSome) : (ch.takeWriteEnd now delay r).PlanLaw := by
  obtain ⟨hp, hd', hb', he⟩ := marked_keeps (f := fun x => { x with endTaken := true }) (fun r =>
    ⟨_, _, _, _, rfl⟩) h hd hb hr
  have hmem := mem_updRecord (f := fun x : BurstRecord => { x with endTaken := true }) hr rfl
  unfold Channel.takeWriteEnd
  dsimp only
  split
  · split
    · next hw => exact finishWrite_planLaw (r := { r with endTaken := true }) hp hd' hb' hmem hw hfall
    · exact hp
  · next hs => exact leave_planLaw (r := { r with endTaken := true }) hp hd' hmem (Bool.eq_false_iff.2 hs)

theorem tailEnd_planLaw (h : ch.PlanLaw) (hd : ch.RisesDistinct) (hb : ch.Bounded) (hs : ch.plan.serving = true)
    (r : BurstRecord) : ((ch.leave r).placeAfter now delay r).PlanLaw := by
  have hp : ch.Planned 0 false (ch.leave r) := ch.leave_planned r
  exact placeAfter_planLaw (hp.toFramed.runs (h.runs_of_serving hs)) (hp.sg.trans (h.servo hs)) (hp.bounded hd hb) _ _

end Channel
end Sys2Proof.Machine
end

section
/-! SUPPORT. The law of the plan through cuts, servo changes, ticks, samples, frames and writes (R24, R40 to R55). -/

namespace Sys2Proof.Machine

namespace Channel

variable {now delay : Nat} {ch ch' : Channel}

/-! ## The stall cut -/

theorem cutMark_front (now : Nat) (r : BurstRecord) (ch : Channel) :
    (ch.cutMark now r).front = ch.front.map fun x => if x.rise = r.rise then x.setFall now else x :=
  front_map (fun x => by split <;> rfl) rfl

theorem isThe_cutMark_front (now : Nat) (r : BurstRecord) (ch : Channel) :
    r.isThe (ch.cutMark now r).front = r.isThe ch.front := by
  rw [cutMark_front]
  cases ch.front with
  | none => rfl
  | some x =>
    simp only [BurstRecord.isThe, Option.map_some, Option.any_some]
    split <;> rfl

theorem cutMark_planLaw (h : ch.PlanLaw) (r : BurstRecord) : (ch.cutMark now r).PlanLaw :=
  (updRecord_planLaw (rise := r.rise) h (setFall_keeps now)).of_match
    (SameDrive.of_queue_eq ⟨rfl, rfl, rfl, rfl, fun _ h => h, fun _ => .rfl, .rfl⟩ rfl)
    fun _ => restLevel_of_set_eq rfl rfl rfl

theorem cutMark_bounded (hb : ch.Bounded) (r : BurstRecord) : (ch.cutMark now r).Bounded := by
  intro x hx
  obtain ⟨y, hy, rfl⟩ := List.mem_map.1 hx
  have hu : (if y.rise = r.rise then y.setFall now else y).upper = y.upper := by split <;> rfl
  rw [hu]
  exact hb y hy

theorem cutMark_risesDistinct (hd : ch.RisesDistinct) (r : BurstRecord) : (ch.cutMark now r).RisesDistinct := by
  rw [RisesDistinct, show (ch.cutMark now r).queue.map (·.rise) = ch.queue.map (·.rise) from
    ch.updRecord_rises fun _ => rfl]
  exact hd

/-- The stall cut of the burst in progress upstream (R24, R45, R46). -/
theorem cut_planLaw (h : ch.PlanLaw) (hd : ch.RisesDistinct) (hb : ch.Bounded) {r : BurstRecord} (hr : r ∈ ch.queue)
    (hopen : r.fall = none) : (ch.cut now delay r).PlanLaw := by
  have hy : (ch.cutMark now r).PlanLaw := cutMark_planLaw h r
  rw [cut_eq]
  split
  case isFalse => exact hy
  next hs =>
  split
  · next hthe =>
    have ht : (ch.cutMark now r).Planned now false ((ch.cutMark now r).truncate now .stall r) :=
      truncate_planned .stall (r' := r.setFall now) (mem_updRecord hr rfl) rfl hs
    have hplan : ((ch.cutMark now r).truncate now .stall r).plan = ch.plan := by simp [cutMark]
    unfold Channel.afterCut
    split
    · next hserve =>
      have hserving : ch.plan.serving = true := by
        rw [hplan] at hserve
        rcases hserve with hp | hp | hp <;> rw [hp] <;> rfl
      have hrun : (ch.cutMark now r).Runs := hy.runs_of_serving hserving
      exact reaim_planLaw (ht.toFramed.runs hrun) (ht.sg.trans (hy.servo hserving))
        (ht.bounded (cutMark_risesDistinct hd r) (cutMark_bounded hb r)) delay
    · next hserve =>
      rw [hplan] at hserve
      refine truncate_planLaw hy fun hserving => ?_
      obtain ⟨x, hx, he⟩ := isThe_iff.1 hthe
      have hfade : ch.plan = .fade := by
        have : ch.plan.serving = true := hserving
        cases hp : ch.plan <;> simp_all [PlanState.serving]
      have := h.faded hfade x hx
      rw [hd.eq hr (front_mem hx) he, hopen] at this
      cases this
  · next hthe => exact truncate_planLaw hy fun _ => by rwa [isThe_cutMark_front]

/-! ## Servo changes -/

theorem servoUp_planLaw (h : ch.PlanLaw) :
    (Channel.servoUp now { ch with sg := true, sgHeld := 0 }).PlanLaw := by
  have hrun : ch.plan ≠ .parked → ch.plan ≠ .halted → Channel.Runs { ch with sg := true, sgHeld := 0 } :=
    fun hp hh => ⟨(h.runs hp hh).mode, (h.runs hp hh).heads⟩
  have stay : ch.plan.serving = false → Channel.PlanLaw { ch with sg := true, sgHeld := 0 } := fun hs =>
    h.of_match (SameDrive.of_queue_eq ⟨rfl, rfl, rfl, rfl, fun hs' => (by rw [hs] at hs'; cases hs'), fun _ => .rfl,
      .rfl⟩ rfl)
      fun _ => restLevel_of_set_eq rfl rfl rfl
  unfold Channel.servoUp
  split
  · next hp =>
    have hp : ch.plan = .write := hp
    have ht : Channel.Planned now false { ch with sg := true, sgHeld := 0 }
      (Channel.truncateWriting now .servo { ch with sg := true, sgHeld := 0 }) := Channel.truncateWriting_planned _ _
    exact enterWedge_planLaw (ht.toFramed.runs (hrun (by rw [hp]; decide) (by rw [hp]; decide))) false
  · next hp =>
    have hp : ch.plan = .warm := hp
    exact enterWedge_planLaw (hrun (by rw [hp]; decide) (by rw [hp]; decide)) false
  · next hp =>
    have hp : ch.plan = .lead := hp
    exact enterWedge_planLaw (hrun (by rw [hp]; decide) (by rw [hp]; decide)) false
  · next hp =>
    have hp : ch.plan = .fade := hp
    have hr := hrun (by rw [hp]; decide) (by rw [hp]; decide)
    split
    · next r _ =>
      have hl : Channel.Planned now false { ch with sg := true, sgHeld := 0 }
        (Channel.leave r { ch with sg := true, sgHeld := 0 }) := Channel.leave_planned _ _
      exact enterWedge_planLaw (hl.toFramed.runs hr) false
    · exact enterWedge_planLaw hr false
  · next hp =>
    have hp : ch.plan = .rest := hp
    exact enterWedge_planLaw (hrun (by rw [hp]; decide) (by rw [hp]; decide)) true
  all_goals
    next hp =>
    exact stay (congrArg PlanState.serving hp)

theorem servoDown_planLaw (h : ch.PlanLaw) (hb : ch.Bounded) :
    (Channel.servoDown now delay { ch with sg := false, sgHeld := 0 }).PlanLaw := by
  unfold Channel.servoDown
  split
  · next hp =>
    have hp : ch.plan = .wedge := hp
    have hrun := h.runs (by rw [hp]; decide) (by rw [hp]; decide)
    have hrun' : Channel.Runs { ch with sg := false, sgHeld := 0 } := ⟨hrun.mode, hrun.heads⟩
    exact reaim_planLaw hrun' rfl (hb.of_eq rfl) delay
  · exact h.of_match (SameDrive.of_queue_eq ⟨rfl, rfl, rfl, rfl, fun _ _ => rfl, fun _ => .rfl, .rfl⟩ rfl)
      fun _ => restLevel_of_set_eq rfl rfl rfl

/-! ## Ticks and samples -/

theorem follow_self (l : Level) (now period : Nat) (m : Monitor) : m.follow l l now period = m := by
  unfold Monitor.follow
  split
  · simp [*]
  · simp [*]

/-- A drift update is a placement of the plan where it stands, with a new trim (R80). -/
theorem drift_planLaw (h : ch.PlanLaw) (hb : ch.Bounded) : ch.drift.PlanLaw := by
  unfold Channel.drift
  split
  case isFalse => exact h
  next hp =>
  split
  case h_2 => exact h
  next r hr =>
  have hs : ch.plan.serving = true := by rcases hp with hp | hp <;> rw [hp] <;> rfl
  have hlvl : ch.lvl = servedLevel ch.plan r := by
    obtain ⟨x, hx, hl, -⟩ := h.served hs
    rw [hr] at hx
    cases hx
    exact hl
  have hdwg : ch.dwg = (servedLevel ch.plan r == .write) := by
    rw [← hlvl, Bool.eq_iff_iff, h.gate, beq_iff_eq]
  have he : { ch.reportLimit r with heldTrim := ch.driftTrim r } =
      (ch.reportLimit r).place 0 ch.plan (servedLevel ch.plan r) (ch.driftTrim r) := by
    have h1 : (ch.reportLimit r).lvl = ch.lvl := by simp
    have h2 : (ch.reportLimit r).plan = ch.plan := by simp
    have h3 : (ch.reportLimit r).dwg = ch.dwg := by simp
    unfold Channel.place Channel.drive
    rw [h1, ← hlvl, follow_self, hlvl, ← hdwg, ← h3, ← hlvl, ← h1, ← h2]
  rw [he]
  refine (reportLimit_canServe (h.canServe hb hs hr rfl rfl)).place ?_ ?_ fun hf => ?_
  · rcases hp with hp | hp <;> rw [hp] <;> decide
  · exact clamp_bounds (hb r (front_mem hr)).1 _
  · rcases hp with hp | hp <;> rw [hp] at hf <;> cases hf

theorem takeTick_planLaw (h : ch.PlanLaw) (hb : ch.Bounded) : (ch.takeTick now).PlanLaw := by
  rw [takeTick_eq]
  refine drift_planLaw (h.of_match (SameDrive.of_queue_eq ⟨rfl, rfl, rfl, rfl, fun _ h => h, fun _ => .rfl, ?_⟩ rfl)
    fun _ => restLevel_of_set_eq rfl rfl ?_) (hb.of_eq rfl)
  · exact List.map_eq_nil_iff
  · exact List.map_map

theorem enterFault_planLaw (h : ch.PlanLaw) (k : EventKind) : (ch.enterFault now k).PlanLaw := by
  unfold Channel.enterFault
  split
  · exact h
  · next hn =>
    rw [not_or, not_or] at hn
    have hrun := h.runs hn.1 hn.2.1
    exact shutDown_planLaw hrun.heads (.inr ⟨rfl, hrun.mode⟩)

theorem takeSample_planLaw (h : ch.PlanLaw) (lines : BitVec 2) : (ch.takeSample now lines).PlanLaw := by
  have hm : ∀ m : Monitor, Channel.PlanLaw { ch with mon := m } := fun m =>
    h.of_match (SameDrive.of_queue_eq ⟨rfl, rfl, rfl, rfl, fun _ h => h, fun _ => .rfl, .rfl⟩ rfl)
      fun _ => restLevel_of_set_eq rfl rfl rfl
  obtain ⟨m, -, -, ⟨he, -⟩ | ⟨k, he⟩⟩ := ch.takeSample_cases now lines <;> rw [he]
  · exact hm m
  · exact enterFault_planLaw (hm m) k

end Channel

/-- The moves of a channel keep the law of its plan. -/
theorem State.Move.planLaw {c : Chan} {s : State} {i : Instr} {ch' : Channel} (h : s.Move c i ch')
    (hq : (s.ch c).QueueLaw s.now (s.delay c)) (hp : (s.ch c).PlanLaw) : ch'.PlanLaw := by
  have hd := hq.risesDistinct
  have hb := hq.bounded
  cases h with
  | rise => exact Channel.takeRise_planLaw hp _ _
  | fall => exact Channel.takeFall_planLaw hp hq
  | returnLow =>
    exact hp.of_match (Channel.SameDrive.of_queue_eq ⟨rfl, rfl, rfl, rfl, fun _ h => h, fun _ => .rfl, .rfl⟩ rfl)
      fun _ => Channel.restLevel_of_set_eq rfl rfl rfl
  | servoRise => exact Channel.servoUp_planLaw hp
  | servoFall => exact Channel.servoDown_planLaw hp hb
  | warmStart hr => exact Channel.takeWarmStart_planLaw hp hd hb (Channel.recordAt_mem hr)
  | writeStart hr => exact Channel.takeWriteStart_planLaw hp hd hb (Channel.recordAt_mem hr)
  | @writeEnd rise r hr h =>
    refine Channel.takeWriteEnd_planLaw hp hd hb (Channel.recordAt_mem hr) ?_
    cases hf : r.fall with
    | some f => rfl
    | none => simp [BurstRecord.endDue, BurstRecord.writeEnd, hf, hasCome] at h
  | tailEnd hr h =>
    refine Channel.tailEnd_planLaw hp hd hb ?_ _
    simp only [Channel.tailDue, Bool.and_eq_true, beq_iff_eq] at h
    rw [h.1.1]; rfl
  | @stallCut r hr =>
    have hmem : r ∈ (s.ch c).queue := List.mem_of_find?_eq_some hr
    have hstall : r.stall = some 0 := by simpa using List.find?_some hr
    exact Channel.cut_planLaw hp hd hb hmem (hq.stalls r hmem (by simp [hstall]))
  | heatTick => exact Channel.takeTick_planLaw hp hb
  | sample => exact Channel.takeSample_planLaw hp _

/-! ## Frames and writes -/

namespace Channel

variable {now : Nat} {ch ch' : Channel}

theorem Touched.sameDrive (h : ch.Touched ch') (hm : ch.plan ≠ .parked → (ch'.set.mode = .halt ↔ ch.set.mode = .halt)) :
    ch.SameDrive ch' where
  dwg := h.dwg
  lvl := h.lvl
  plan := h.plan
  heldTrim := h.heldTrim
  sg _ hs := h.sg.trans hs
  halt := hm
  heads := by
    have := h.heats
    rw [← List.map_eq_nil_iff (f := fun h : Head => h.heat), this, List.map_eq_nil_iff]

/-- A change of the tables that leaves the target and the mode. -/
theorem PlanLaw.touched (h : ch.PlanLaw) (ht : ch.Touched ch') (hmode : ch'.set.mode = ch.set.mode)
    (hband : ch'.set.band = ch.set.band) (hsel : ch'.port.headSel = ch.port.headSel) (hheads : ch'.heads = ch.heads) :
    ch'.PlanLaw :=
  h.of_match ((ht.sameDrive fun _ => by rw [hmode]).of_queue_eq ht.queue)
    fun _ => restLevel_congr hmode hband hsel (by rw [hheads])

/-- The steps of a sequence leave both shadows; its end completes the learning (R139, R140). -/
@[simp] theorem advance_shadows (now : Nat) (o : SeqOwner) (rest : List InsertedFrame) (ch : Channel) :
    (ch.advance now o rest).port.page = ch.port.page ∧ (ch.advance now o rest).port.headSel = ch.port.headSel := by
  unfold Channel.advance
  split
  · cases o <;> exact ⟨rfl, rfl⟩
  · exact ⟨rfl, rfl⟩

theorem advance_planLaw (h : ch.PlanLaw) (o : SeqOwner) (rest : List InsertedFrame) :
    (ch.advance now o rest).PlanLaw := by
  refine h.touched (Channel.advance_dressed _ _ _ _).toTouched ?_ ?_ ?_ ?_ <;> simp

theorem enterHalted_planLaw (h : ch.plan = .halted ∨ ch.plan = .parked → ch.PlanLaw) (hm : ch.set.mode = .halt)
    (hh : ch.plan ≠ .parked → ch.heads ≠ []) : (ch.enterHalted now).PlanLaw := by
  unfold Channel.enterHalted
  split
  · next hp => exact h hp
  · next hp => exact shutDown_planLaw (hh fun he => hp (.inr he)) (.inl ⟨rfl, hm⟩)

theorem clearFault_planLaw (h : ch.PlanLaw) : (ch.clearFault now).PlanLaw := by
  unfold Channel.clearFault
  split
  · next hp =>
    have hr : (ch.enterRest now).PlanLaw :=
      enterRest_planLaw (h.runs (by rw [hp]; decide) (by rw [hp]; decide)) (h.quiet (by rw [hp]; decide))
    exact hr.of_match (SameDrive.of_queue_eq ⟨rfl, rfl, rfl, rfl, fun _ h => h, fun _ => .rfl, .rfl⟩ rfl)
      fun _ => restLevel_of_set_eq rfl rfl rfl
  · exact h

theorem restart_planLaw (h : ch.PlanLaw) : (ch.restart now).PlanLaw := by
  unfold Channel.restart
  split
  · exact h
  next hp =>
  have hheads : ch.heads ≠ [] := fun he => hp (h.parked.2 he)
  have hset : (ch.truncateWriting now .restart).set = ch.set := by simp
  have hheads' : (ch.truncateWriting now .restart).heads = ch.heads := by simp
  dsimp only
  split
  · next hm =>
    exact enterHalted_planLaw (by rintro (he | he) <;> cases he) hm fun _ => by rw [← hheads'] at hheads; exact hheads
  · next hm =>
    have hrun : Channel.Runs { ch.truncateWriting now .restart with queue := [] } :=
      ⟨hm, by rw [← hheads'] at hheads; exact hheads⟩
    exact (enterRest_planLaw (now := now) hrun rfl).of_match
      (SameDrive.of_queue_eq ⟨rfl, rfl, rfl, rfl, fun _ h => h, fun _ => .rfl, .rfl⟩ rfl)
      fun _ => restLevel_of_set_eq rfl rfl rfl

/-- The Planner at a mode write of NORMAL or SHADOW (R48, R50). -/
theorem setRunMode_planLaw (h : ch.PlanLaw) {m : Mode} (hm : m ≠ .halt) : (ch.setRunMode now m).PlanLaw := by
  unfold Channel.setRunMode
  dsimp only
  split
  · next hp =>
    have hp : ch.plan = .halted := hp
    have hrun : Channel.Runs (ch.setFields fun f => { f with mode := m }) :=
      ⟨hm, fun he => by rw [h.parked.2 he] at hp; cases hp⟩
    exact enterRest_planLaw hrun (h.quiet (by rw [hp]; decide))
  · next hp =>
    refine h.refreshRest (SameDrive.of_queue_eq ⟨rfl, rfl, rfl, rfl, fun _ h => h, fun hn => ?_, .rfl⟩ rfl)
    exact iff_of_false hm fun hh => hp ((h.halt hn).1 hh)

/-- The Planner at a mode write of HALT (R49). -/
theorem setHalt_planLaw (h : ch.PlanLaw) : (ch.setHalt now).PlanLaw := by
  refine enterHalted_planLaw (fun hp => ?_) rfl fun hn he => hn (h.parked.2 he)
  refine h.of_match (SameDrive.of_queue_eq ⟨rfl, rfl, rfl, rfl, fun _ h => h, fun hn => ?_, .rfl⟩ rfl) fun hr => ?_
  · exact iff_of_true rfl ((h.halt hn).2 (hp.resolve_right hn))
  · rcases hp with hp | hp <;> rw [show ch.plan = _ from hp] at hr <;> cases hr

end Channel

theorem WriteKind.effect_planLaw (k : WriteKind) {now : Nat} (addr : Addr) (data : Byte) {ch : Channel}
    (h : ch.PlanLaw) :
    (k.effect now addr data ch).PlanLaw := by
  have hd := k.dress_dressed addr data ch
  rw [WriteKind.effect_eq]
  cases k with
  | headSelect | preampReset | headField | lowByte | highByte | bandSelect =>
    exact h.refreshRest ((hd.sameDrive fun _ => .rfl).of_queue_eq hd.queue)
  | pageSelect | levelRegister | monitorRegister | stallLimit | wedgeLevel | inject | other =>
    exact h.touched hd.toTouched rfl rfl rfl rfl
  | heatSetting =>
    have hset : ∀ f : ChannelFields, (f.writeHeat addr data).mode = f.mode ∧ (f.writeHeat addr data).band = f.band := by
      intro f
      unfold ChannelFields.writeHeat
      split_ifs <;> exact ⟨rfl, rfl⟩
    exact h.touched hd.toTouched (hset _).1 (hset _).2 rfl rfl
  | modeNormal => exact Channel.setRunMode_planLaw h (by decide)
  | modeShadow => exact Channel.setRunMode_planLaw h (by decide)
  | modeHalt => exact Channel.setHalt_planLaw h
  | faultClear => exact Channel.clearFault_planLaw h
  | channelRestart => exact Channel.restart_planLaw h

theorem State.Frame.planLaw {c : Chan} {s : State} {i : Instr} {ch' : Channel} (h : s.Frame c i ch')
    (hp : (s.ch c).PlanLaw) : ch'.PlanLaw := by
  cases h with
  | grantRelayed | grantLearning | grantSummary =>
    exact hp.touched (by constructor <;> rfl) rfl rfl rfl rfl
  | grantUpkeep =>
    refine hp.touched (Channel.startUpkeep_dressed _ _).toTouched ?_ ?_ ?_ ?_ <;>
      (unfold Channel.startUpkeep; split <;> rfl)
  | grantRecord =>
    refine hp.touched (Channel.startRecord_dressed _ _ _).toTouched ?_ ?_ ?_ ?_ <;>
      (unfold Channel.startRecord; split <;> rfl)
  | learnHead =>
    exact Channel.advance_planLaw (hp.refreshRest
      (((Channel.headSelSet_dressed _ _).sameDrive fun _ =>
        .rfl).of_queue_eq (Channel.headSelSet_dressed _ _).queue)) _ _
  | learnPage | pageSelected =>
    exact Channel.advance_planLaw (hp.touched (Channel.setPage_dressed _ _).toTouched rfl rfl rfl rfl) _ _
  | upkeepWritten =>
    exact Channel.advance_planLaw (hp.touched (Channel.imageWrite_dressed _ _ _).toTouched rfl rfl rfl rfl) _ _
  | recordWritten | summaryWritten => exact Channel.advance_planLaw hp _ _

/-- Every answer of a command of a channel keeps the law of its plan. -/
theorem State.Answer.planLaw {c : Chan} {s t : State} {i : Instr} (h : s.Answer c i t)
    (hq : (s.ch c).QueueLaw s.now (s.delay c)) (hp : (s.ch c).PlanLaw) : (t.ch c).PlanLaw := by
  cases h with
  | unchanged => exact hp
  | move _ h => rw [State.upd_ch]; exact h.planLaw hq hp
  | frame _ h => rw [State.upd_ch]; exact h.planLaw hp
  | @write k page addr data =>
    rw [State.delivered_ch]
    exact (k.effect_planLaw addr data hp).touched (Channel.freePort_dressed _).toTouched rfl rfl rfl rfl
  | @read k byte addr hold =>
    have hs : (readEffect s.loaded addr hold byte (s.ch c)).PlanLaw := by
      refine hp.touched (readEffect_touched _ _ _ _ _) ?_ ?_ ?_ ?_ <;> (unfold readEffect; split <;> simp)
    have hfree := hs.touched (Channel.freePort_dressed _).toTouched rfl rfl rfl rfl
    cases c <;> exact hfree

end Sys2Proof.Machine
end

section
/-! SUPPORT. The law of the relay slot, the ports and the held frames through every command (R131 to R142, R149 to
R153). -/

namespace Sys2Proof.Machine

/-! ## The law by channels -/

/-- What `State.RelayLaw` says of one port and its shadows. -/
structure Channel.PortLaw (c : Chan) (slot : Option SlotFrame) (ch : Channel) : Prop where
  relayed : ∀ began page, ch.port.job = some ⟨began, .relayed page⟩ → page = ch.port.page ∧ ∃ k, slot = some ⟨c, k⟩
  parked : ch.heads = [] → ch.port.job = none ∧ ∀ f, slot = some f → f.port ≠ c
  learning : ch.port.learning ≠ .complete → ch.port.headSel = none ∧
    ∀ j, ch.port.job = some j → ch.port.learning = .running ∧
      (j.work = .inserted .learning [.readPage, .readHead] ∨
        (j.work = .inserted .learning [.readHead] ∧ ch.port.page.isSome))
  learned : ch.port.learning = .complete → ch.port.page.isSome ∧ ch.port.headSel.isSome ∧
    ∀ began frames, ch.port.job ≠ some ⟨began, .inserted .learning frames⟩

/-- What it says of the frames held while records are served. -/
structure Channel.HeldLaw (c : Chan) (slot : Option SlotFrame) (ch : Channel) : Prop where
  held : ch.carriesRelayed = true → ch.holdsProtected c slot = true → ch.active = false
  upkeep : ch.upkeepRunning = true → ch.active = false
  shadow : ∀ r ∈ ch.queue, r.served = true → r.head = ch.shadowHead ∧ r.head.isSome

/-- What it says of RDY, the slot and the frame upstream. -/
structure State.LineLaw (s : State) : Prop where
  rdy : s.rdy = true ↔ s.phase = .running ∧ s.slot = none
  reset : s.phase ≠ .running → s.slot = none ∧ ∀ c, (s.ch c).port.job = none
  reading : ∀ c, s.reception = .reading c ↔ ∃ addr, s.slot = some ⟨c, .read addr .held⟩
  receiving : ∀ c, s.reception = .receiving c → s.rdy = true

theorem State.relayLaw_iff {s : State} : s.RelayLaw ↔
    s.LineLaw ∧ ∀ c, (s.ch c).PortLaw c s.slot ∧ (s.ch c).HeldLaw c s.slot := by
  constructor
  · rintro ⟨h1, h2, h3, h4, h5, h6, h7, h8, h9, h10, h11⟩
    exact ⟨⟨h1, h2, h7, h8⟩, fun c => ⟨⟨h3 c, h4 c, h5 c, h6 c⟩, ⟨h9 c, h10 c, h11 c⟩⟩⟩
  · rintro ⟨⟨h1, h2, h7, h8⟩, h⟩
    exact ⟨h1, h2, fun c => (h c).1.relayed, fun c => (h c).1.parked, fun c => (h c).1.learning,
      fun c => (h c).1.learned, h7, h8, fun c => (h c).2.held, fun c => (h c).2.upkeep, fun c => (h c).2.shadow⟩

namespace Channel

variable {c : Chan} {slot slot' : Option SlotFrame} {ch ch' : Channel}

theorem carriesRelayed_iff : ch.carriesRelayed = true ↔ ∃ began page, ch.port.job = some ⟨began, .relayed page⟩ := by
  unfold Channel.carriesRelayed
  split
  · next began page h => simp [h]
  · next h => simpa using fun began page hj => h began page hj

theorem carriesRelayed_eq_false {began : Nat} {o : SeqOwner} {fs : List InsertedFrame}
    (h : ch.port.job = some ⟨began, .inserted o fs⟩) : ch.carriesRelayed = false := by simp [Channel.carriesRelayed, h]

theorem upkeepRunning_iff : ch.upkeepRunning = true ↔ ∃ began fs, ch.port.job = some ⟨began, .inserted .upkeep fs⟩ := by
  unfold Channel.upkeepRunning
  split
  · next began fs h => simp [h]
  · next h => simpa using fun began fs hj => h began fs hj

/-- A channel whose port carries no relayed frame knows the slot only by what waits there. -/
theorem PortLaw.of_slot (h : ch.PortLaw c slot) (hn : ch.carriesRelayed = false)
    (hs : ch.heads = [] → ∀ f, slot' = some f → f.port ≠ c) : ch.PortLaw c slot' where
  relayed began page hj := by rw [carriesRelayed_iff.2 ⟨began, page, hj⟩] at hn; cases hn
  parked he := ⟨(h.parked he).1, hs he⟩
  learning := h.learning
  learned := h.learned

theorem HeldLaw.of_slot (h : ch.HeldLaw c slot) (hn : ch.carriesRelayed = false) : ch.HeldLaw c slot' where
  held hc := by rw [hc] at hn; cases hn
  upkeep := h.upkeep
  shadow := h.shadow

/-- A frame in the slot for one port is none of the other port's. -/
theorem PortLaw.carriesRelayed_other (h : ch.PortLaw c slot) (hs : ∀ k, slot ≠ some ⟨c, k⟩) :
    ch.carriesRelayed = false := by
  rw [Bool.eq_false_iff]
  intro hc
  obtain ⟨began, page, hj⟩ := carriesRelayed_iff.1 hc
  obtain ⟨-, k, hk⟩ := h.relayed began page hj
  exact hs k hk

theorem active_eq (h : ch.PlanLaw) : ch.active = ch.queue.any (·.served) := by
  unfold Channel.active
  cases hs : ch.plan.serving with
  | false => exact Bool.or_false _
  | true =>
    obtain ⟨r, hr, -⟩ := h.served hs
    rw [Bool.or_true, eq_comm, List.any_eq_true]
    exact ⟨r, front_mem hr, front_served hr⟩

/-! ## Moves -/

theorem Local.shadowHead (h : ch.Local ch') : ch'.shadowHead = ch.shadowHead := by
  have hlen : ch'.heads.length = ch.heads.length := by simpa using congrArg List.length h.cals
  simp only [Channel.shadowHead, h.port, hlen]

theorem PortLaw.local (h : ch.PortLaw c slot) (hl : ch.Local ch') : ch'.PortLaw c slot := by
  obtain ⟨h1, h2, h3, h4⟩ := h
  constructor <;> rw [hl.port]
  · exact h1
  · exact fun he => h2 (hl.heads_eq_nil_iff.1 he)
  · exact h3
  · exact h4

end Channel

/-- The served records after a preparation: those there were, or that of an accepted rise as well (R14, R15). -/
theorem State.Prep.served {c : Chan} {s : State} {i : Instr} {ch : Channel} (h : s.Prep c i ch)
    (hq : (s.ch c).QueueLaw s.now (s.delay c)) {r' : BurstRecord} (hr' : r' ∈ ch.queue) (hs : r'.served = true) :
    (∃ r ∈ (s.ch c).queue, r.served = true ∧ r'.head = r.head) ∨
      (s.ch c).holdsProtected c s.slot = false ∧ (s.ch c).upkeepRunning = false ∧
        r'.head = (s.ch c).shadowHead ∧ r'.head.isSome := by
  cases h with
  | refused =>
    rcases List.mem_append.1 hr' with hr' | hr'
    · exact .inl ⟨r', hr', hs, rfl⟩
    · rw [List.mem_singleton.1 hr'] at hs; cases (hs : false = true)
  | booked _ _ _ hw =>
    rcases List.mem_append.1 hr' with hr' | hr'
    · exact .inl ⟨r', hr', hs, rfl⟩
    · have hacc := Channel.acceptable_of_refusal hw
      rw [List.mem_singleton.1 hr']
      refine .inr ⟨hacc.held, ?_, rfl, Option.isSome_iff_ne_none.2 hacc.head⟩
      have hready := hacc.ready
      simp only [Channel.ready, Bool.and_eq_true, Bool.not_eq_true'] at hready
      exact hready.2
  | fallen =>
    unfold Channel.takeFall at hr'
    dsimp only at hr'
    split at hr'
    · exact .inl ⟨r', hr', hs, rfl⟩
    · rw [Channel.setNewestFall_eq_map _ _ hq.fallen_but_newest] at hr'
      obtain ⟨r, hr, rfl⟩ := List.mem_map.1 hr'
      exact .inl ⟨r, hr, hs, rfl⟩
  | cutMark =>
    obtain ⟨r, hr, rfl⟩ := List.mem_map.1 hr'
    refine .inl ⟨r, hr, ?_, ?_⟩
    · split at hs <;> exact hs
    · split <;> rfl
  | _ => exact .inl ⟨r', hr', hs, rfl⟩

/-- The served records after a move. -/
theorem State.Move.served {c : Chan} {s : State} {i : Instr} {ch' : Channel} (h : s.Move c i ch')
    (hq : (s.ch c).QueueLaw s.now (s.delay c)) {r' : BurstRecord} (hr' : r' ∈ ch'.queue) (hs : r'.served = true) :
    (∃ r ∈ (s.ch c).queue, r.served = true ∧ r'.head = r.head) ∨
      (s.ch c).holdsProtected c s.slot = false ∧ (s.ch c).upkeepRunning = false ∧
        r'.head = (s.ch c).shadowHead ∧ r'.head.isSome := by
  obtain ⟨ch₁, start, hprep, hplan, -⟩ := h.factors
  obtain ⟨r, hr, hf⟩ := (hplan.keeps ((Opening.prep hprep).risesDistinct hq)).queue.exists_of_mem hr'
  rw [hf.head]
  exact hprep.served hq hr (hf.served hs)

theorem Channel.HeldLaw.move {c : Chan} {s : State} {i : Instr} {ch' : Channel} (h : (s.ch c).HeldLaw c s.slot)
    (hm : s.Move c i ch') (hq : (s.ch c).QueueLaw s.now (s.delay c)) (hp : (s.ch c).PlanLaw) :
    ch'.HeldLaw c s.slot := by
  have hl := hm.local
  have hheld : ch'.holdsProtected c s.slot = (s.ch c).holdsProtected c s.slot := by
    simp only [Channel.holdsProtected, hl.port]
  have hup : ch'.upkeepRunning = (s.ch c).upkeepRunning := by simp only [Channel.upkeepRunning, hl.port]
  have hcarry : ch'.carriesRelayed = (s.ch c).carriesRelayed := by simp only [Channel.carriesRelayed, hl.port]
  have inactive (hi : (s.ch c).active = false)
      (hb : (s.ch c).holdsProtected c s.slot = true ∨ (s.ch c).upkeepRunning = true) : ch'.active = false := by
    rw [Channel.active_eq (hm.planLaw hq hp), List.any_eq_false]
    intro r' hr' hs
    rcases hm.served hq hr' hs with ⟨r, hr, hrs, -⟩ | ⟨h1, h2, -⟩
    · exact List.any_eq_false.1 (Channel.any_served_of_inactive hi) r hr hrs
    · rcases hb with hb | hb
      · rw [hb] at h1; cases h1
      · rw [hb] at h2; cases h2
  constructor
  · rw [hcarry, hheld]
    exact fun hc hp => inactive (h.held hc hp) (.inl hp)
  · rw [hup]
    exact fun hu => inactive (h.upkeep hu) (.inr hu)
  · intro r' hr' hs
    rw [hl.shadowHead]
    rcases hm.served hq hr' hs with ⟨r, hr, hrs, he⟩ | ⟨-, -, h1, h2⟩
    · rw [he]; exact h.shadow r hr hrs
    · exact ⟨h1, h2⟩

/-! ## Grants and inserted frames -/

namespace Channel

variable {c : Chan} {slot : Option SlotFrame} {now : Nat} {ch ch' : Channel}

/-- What each grant has found (R137, R142, R151). -/
theorem arbiterChoice_found {w : Work} (h : ch.arbiterChoice c slot = some w) :
    match w with
    | .relayed => ch.relayEligible c slot = true
    | .learning => ch.port.learning = .queued
    | .upkeep => ch.port.learning = .complete ∧ ch.active = false
    | .record | .summary => ch.port.learning = .complete := by
  unfold Channel.arbiterChoice at h
  split at h
  · cases h
  split at h
  · cases h; assumption
  split at h
  · cases h; assumption
  split at h
  · cases h
  next hl =>
  have hl := Decidable.not_not.1 hl
  split at h
  · next hu => cases h; exact ⟨hl, by simpa using hu.2⟩
  split at h
  · cases h; exact hl
  split at h
  · cases h; exact hl
  · cases h

theorem advance_job (now : Nat) (o : SeqOwner) (rest : List InsertedFrame) (ch : Channel) :
    (ch.advance now o rest).port.job = nextJob now o rest := by
  unfold Channel.advance
  split
  · cases o <;> rfl
  · rfl

/-- Only the end of the learning sequence moves the state of the learning (R139). -/
theorem advance_learning (now : Nat) (o : SeqOwner) (rest : List InsertedFrame) (ch : Channel) :
    (ch.advance now o rest).port.learning = if o = .learning ∧ rest = [] then .complete else ch.port.learning := by
  unfold Channel.advance
  split
  · cases o <;> simp [Channel.endSequence, Channel.freePort]
  · simp [Channel.startJob]

theorem nextJob_eq_some {now : Nat} {o : SeqOwner} {rest : List InsertedFrame} {j : Job}
    (h : nextJob now o rest = some j) :
    j.work = .inserted o rest := by
  cases rest with
  | nil => cases h
  | cons f rest => cases h; rfl

/-- A port whose learning is complete takes an inserted sequence up, or goes on with one, or is free. -/
theorem PortLaw.inserted (h : ch.PortLaw c slot) (hc : ch.port.learning = .complete) (hh : ch.heads ≠ [])
    (hj : ∀ j, ch'.port.job = some j → ∃ o fs, j.work = .inserted o fs ∧ o ≠ .learning) (hpage : ch'.port.page.isSome)
    (hsel : ch'.port.headSel = ch.port.headSel) (hlearn : ch'.port.learning = ch.port.learning)
    (hheads : ch'.heads = ch.heads) : ch'.PortLaw c slot where
  relayed began page he := by
    obtain ⟨o, fs, hw, -⟩ := hj _ he
    cases hw
  parked he := absurd (hheads ▸ he) hh
  learning hn := absurd (hlearn.trans hc) hn
  learned _ := by
    refine ⟨hpage, hsel ▸ (h.learned hc).2.1, fun began frames he => ?_⟩
    obtain ⟨o, fs, hw, ho⟩ := hj _ he
    cases hw
    exact ho rfl

/-- A frame leaves what is served; what it makes the port carry decides over what is held. -/
theorem HeldLaw.frame (h : ch.HeldLaw c slot) (hu : ch.Unserved ch') (hsel : ch'.port.headSel = ch.port.headSel)
    (hheld : ch'.carriesRelayed = true → ch'.holdsProtected c slot = true → ch.active = false)
    (hup : ch'.upkeepRunning = true → ch.active = false) : ch'.HeldLaw c slot where
  held h1 h2 := by simpa only [Channel.active, hu.queue, hu.plan] using hheld h1 h2
  upkeep h1 := by simpa only [Channel.active, hu.queue, hu.plan] using hup h1
  shadow r hr hs := by
    have : ch'.shadowHead = ch.shadowHead := by simp only [Channel.shadowHead, hsel, hu.heads]
    rw [this]
    exact h.shadow r (hu.queue ▸ hr) hs

/-- An inserted sequence that runs is none of the learning's once that is complete, and the learning's own else. -/
theorem PortLaw.owner (h : ch.PortLaw c slot) {began : Nat} {o : SeqOwner} {fs : List InsertedFrame}
    (hj : ch.port.job = some ⟨began, .inserted o fs⟩) :
    ch.heads ≠ [] ∧ (o ≠ .learning ∧ ch.port.learning = .complete ∨
      o = .learning ∧ ch.port.learning = .running ∧
        (fs = [.readPage, .readHead] ∨ fs = [.readHead] ∧ ch.port.page.isSome)) := by
  refine ⟨fun he => ?_, ?_⟩
  · rw [(h.parked he).1] at hj; cases hj
  by_cases hc : ch.port.learning = .complete
  · refine .inl ⟨fun ho => ?_, hc⟩
    subst ho
    exact (h.learned hc).2.2 _ _ hj
  · obtain ⟨-, hl⟩ := h.learning hc
    obtain ⟨hr, hw | ⟨hw, hp⟩⟩ := hl _ hj
    · cases hw; exact .inr ⟨rfl, hr, .inl rfl⟩
    · cases hw; exact .inr ⟨rfl, hr, .inr ⟨rfl, hp⟩⟩

/-- One more frame of a sequence that is not the learning's has completed: `ch₁` is the channel it leaves. -/
theorem PortLaw.advance (h : ch.PortLaw c slot) {began : Nat} {o : SeqOwner} {fs rest : List InsertedFrame}
    {ch₁ : Channel}
    (hj : ch.port.job = some ⟨began, .inserted o fs⟩) (ho : o ≠ .learning)
      (hpage : ch.port.page.isSome → ch₁.port.page.isSome)
    (hsel : ch₁.port.headSel = ch.port.headSel) (hlearn : ch₁.port.learning = ch.port.learning)
    (hheads : ch₁.heads = ch.heads) : (ch₁.advance now o rest).PortLaw c slot := by
  obtain ⟨hh, ⟨-, hc⟩ | ⟨he, -⟩⟩ := h.owner hj
  · refine h.inserted hc hh (fun j hj' => ⟨o, rest, ?_, ho⟩) ?_ ?_ ?_ ?_
    · rw [advance_job] at hj'
      exact nextJob_eq_some hj'
    · rw [(advance_shadows _ _ _ _).1]
      exact hpage (h.learned hc).1
    · rw [(advance_shadows _ _ _ _).2, hsel]
    · rw [advance_learning, if_neg fun hx => ho hx.1, hlearn]
    · simpa using hheads
  · exact absurd he ho

theorem advance_not_carrying (now : Nat) (o : SeqOwner) (rest : List InsertedFrame) (ch : Channel) :
    (ch.advance now o rest).carriesRelayed = false := by
  rw [Bool.eq_false_iff]
  intro hc
  obtain ⟨began, page, hj⟩ := carriesRelayed_iff.1 hc
  rw [advance_job] at hj
  have := nextJob_eq_some hj
  cases this

/-- The channel a completed frame leaves holds nothing for a relayed frame, and upkeep only if it did before. -/
theorem HeldLaw.advance (h : ch.HeldLaw c slot) {began : Nat} {o : SeqOwner} {fs rest : List InsertedFrame}
    {ch₁ : Channel}
    (hj : ch.port.job = some ⟨began, .inserted o fs⟩) (hu : ch.Unserved (ch₁.advance now o rest))
    (hsel : ch₁.port.headSel = ch.port.headSel) : (ch₁.advance now o rest).HeldLaw c slot := by
  refine h.frame hu (by rw [(advance_shadows _ _ _ _).2, hsel]) (fun hc => ?_) fun hup => ?_
  · rw [advance_not_carrying] at hc; cases hc
  · obtain ⟨began', fs', hj'⟩ := upkeepRunning_iff.1 hup
    rw [advance_job] at hj'
    have := nextJob_eq_some hj'
    cases this
    exact h.upkeep (upkeepRunning_iff.2 ⟨_, _, hj⟩)

/-- A granted sequence of another owner than the learning (R137). -/
theorem startJob_linkLaw {now : Nat} {o : SeqOwner} {fs : List InsertedFrame} (hp : ch.PortLaw c slot)
    (hl : ch.HeldLaw c slot) (hc : ch.port.learning = .complete) (hh : ch.heads ≠ []) (ho : o ≠ .learning)
    (hup : o = .upkeep → ch.active = false) (hport : ch'.port = { ch.port with job := some ⟨now, .inserted o fs⟩ })
    (hu : ch.Unserved ch') : ch'.PortLaw c slot ∧ ch'.HeldLaw c slot := by
  have hj : ch'.port.job = some ⟨now, .inserted o fs⟩ := by rw [hport]
  refine ⟨hp.inserted hc hh (fun j hj' => ⟨o, fs, ?_, ho⟩) ?_ ?_ ?_ hu.heads, hl.frame hu (by rw [hport]) ?_ ?_⟩
  · rw [hj] at hj'; cases hj'; rfl
  · rw [hport]; exact (hp.learned hc).1
  · rw [hport]
  · rw [hport]
  · intro hcarry; rw [carriesRelayed_eq_false hj] at hcarry; cases hcarry
  · intro hrun
    obtain ⟨began, fs', hj'⟩ := upkeepRunning_iff.1 hrun
    rw [hj] at hj'
    cases hj'
    exact hup rfl

end Channel

theorem State.Frame.linkLaw {c : Chan} {s : State} {i : Instr} {ch' : Channel} (h : s.Frame c i ch')
    (hp : (s.ch c).PortLaw c s.slot) (hl : (s.ch c).HeldLaw c s.slot) :
    ch'.PortLaw c s.slot ∧ ch'.HeldLaw c s.slot := by
  have hu := h.unserved
  cases h with
  | grantRelayed h =>
    obtain ⟨-, hh, hj, hw⟩ := State.choice_eq_some h
    have he : (s.ch c).relayEligible c s.slot = true := Channel.arbiterChoice_found hw
    simp only [Channel.relayEligible, Bool.and_eq_true, beq_iff_eq, Bool.not_eq_true', Bool.and_eq_false_iff] at he
    obtain ⟨⟨hwait, hc⟩, hheld⟩ := he
    obtain ⟨hpage, hsel, -⟩ := hp.learned hc
    refine ⟨⟨?_, fun he => absurd he hh, fun hn => absurd hc hn, fun _ => ⟨hpage, hsel, nofun⟩⟩,
      hl.frame hu rfl (fun _ hprot => ?_) nofun⟩
    · intro began page hj
      cases hj
      obtain ⟨k, hk⟩ := Option.isSome_iff_exists.1 hwait
      exact ⟨rfl, k, waitingFrame_eq_some.1 hk⟩
    · refine hheld.resolve_left fun hn => ?_
      have hend : (s.ch c).port.pageAtEnd = (s.ch c).port.page := Port.pageAtEnd_free hj
      rw [Channel.holdsProtected, hend] at hn
      exact Bool.false_ne_true (hn.symm.trans hprot)
  | grantLearning h =>
    obtain ⟨-, hh, hj, hw⟩ := State.choice_eq_some h
    have hq : (s.ch c).port.learning = .queued := Channel.arbiterChoice_found hw
    refine ⟨⟨nofun, fun he => absurd he hh, fun _ => ?_, nofun⟩, hl.frame hu rfl nofun nofun⟩
    refine ⟨(hp.learning (by rw [hq]; decide)).1, fun j hj => ?_⟩
    cases hj
    exact ⟨rfl, .inl rfl⟩
  | grantUpkeep h =>
    obtain ⟨-, hh, -, hw⟩ := State.choice_eq_some h
    obtain ⟨hc, ha⟩ : _ ∧ _ := Channel.arbiterChoice_found hw
    revert hu
    unfold Channel.startUpkeep
    split
    · exact fun hu => Channel.startJob_linkLaw hp hl hc hh (by decide) (fun _ => ha) rfl hu
    · exact fun _ => ⟨hp, hl⟩
  | grantRecord h =>
    obtain ⟨-, hh, -, hw⟩ := State.choice_eq_some h
    have hc : (s.ch c).port.learning = .complete := Channel.arbiterChoice_found hw
    revert hu
    unfold Channel.startRecord
    split
    · exact fun hu => Channel.startJob_linkLaw (o := .record (s.ch c).jnl.nextWrite) hp hl hc hh nofun nofun rfl hu
    · exact fun _ => ⟨hp, hl⟩
  | grantSummary h =>
    obtain ⟨-, hh, -, hw⟩ := State.choice_eq_some h
    have hc : (s.ch c).port.learning = .complete := Channel.arbiterChoice_found hw
    exact Channel.startJob_linkLaw (o := .summary (s.ch c).summary) hp hl hc hh nofun nofun rfl hu
  | @learnPage byte rest h =>
    obtain ⟨-, began, hj, -⟩ := State.insertedDue_eq_some.1 h
    obtain ⟨hh, ⟨ho, -⟩ | ⟨-, hr, hfs | ⟨hfs, -⟩⟩⟩ := hp.owner hj
    · exact absurd rfl ho
    · cases hfs
      refine ⟨⟨nofun, fun he => absurd he hh, fun _ => ?_, fun hc => ?_⟩, hl.advance hj hu rfl⟩
      · refine ⟨(hp.learning (by rw [hr]; decide)).1, fun j hj => ?_⟩
        cases hj
        exact ⟨hr, .inr ⟨rfl, rfl⟩⟩
      · exact absurd (hr.symm.trans hc) (by decide)
    · cases hfs
  | @learnHead byte rest h =>
    obtain ⟨-, began, hj, -⟩ := State.insertedDue_eq_some.1 h
    obtain ⟨hh, ⟨ho, -⟩ | ⟨-, hr, hfs | ⟨hfs, hpage⟩⟩⟩ := hp.owner hj
    · exact absurd rfl ho
    · cases hfs
    · cases hfs
      have hport : (Channel.advance s.now .learning [] ((s.ch c).setHeadSel s.now (lowNibble byte))).port =
          { (s.ch c).port with headSel := some (lowNibble byte), learning := .complete, job := none } := by
        simp [Channel.advance, Channel.endSequence, Channel.freePort, Channel.setHeadSel]
      have hnone : (s.ch c).shadowHead = none := by
        simp [Channel.shadowHead, (hp.learning (by rw [hr]; decide)).1]
      refine ⟨⟨?_, fun he => absurd (hu.heads ▸ he) hh, ?_, fun _ => ?_⟩, ?_, ?_, fun r hrq hs => ?_⟩
      · rw [hport]; nofun
      · rw [hport]; exact fun hn => absurd rfl hn
      · rw [hport]; exact ⟨hpage, rfl, nofun⟩
      · intro hc; rw [Channel.advance_not_carrying] at hc; cases hc
      · simp [Channel.upkeepRunning, hport]
      · have := hl.shadow r (hu.queue ▸ hrq) hs
        rw [hnone] at this
        rw [this.1] at this
        exact absurd this.2 (by decide)
  | @pageSelected o p rest h =>
    obtain ⟨-, began, hj, -⟩ := State.insertedDue_eq_some.1 h
    have ho : o ≠ .learning := by
      intro ho
      obtain ⟨-, ⟨hn, -⟩ | ⟨-, -, hfs | ⟨hfs, -⟩⟩⟩ := hp.owner hj
      · exact hn ho
      · cases hfs
      · cases hfs
    exact ⟨hp.advance hj ho (fun _ => rfl) rfl rfl rfl, hl.advance hj hu rfl⟩
  | upkeepWritten h =>
    obtain ⟨-, began, hj, -⟩ := State.insertedDue_eq_some.1 h
    exact ⟨hp.advance hj (by decide) id rfl rfl rfl, hl.advance hj hu rfl⟩
  | recordWritten h | summaryWritten h =>
    obtain ⟨-, began, hj, -⟩ := State.insertedDue_eq_some.1 h
    exact ⟨hp.advance hj nofun id rfl rfl rfl, hl.advance hj hu rfl⟩

/-! ## Completions -/

/-- A completed write changes no state of the learning, and leaves known shadows known (R138, R145). -/
theorem WriteKind.effect_port (k : WriteKind) (now : Nat) (addr : Addr) (data : Byte) (ch : Channel) :
    (k.effect now addr data ch).port.learning = ch.port.learning ∧
    (ch.port.page.isSome → (k.effect now addr data ch).port.page.isSome) ∧
    (ch.port.headSel.isSome → (k.effect now addr data ch).port.headSel.isSome) := by
  have hport : (k.effect now addr data ch).port = (k.dress addr data ch).port := by
    rw [WriteKind.effect_eq, (k.plan_planned (now := now) (start := false) (k.dress addr data ch)).port]
  rw [hport]
  cases k with
  | pageSelect => exact ⟨rfl, fun _ => rfl, id⟩
  | headSelect => exact ⟨rfl, id, fun _ => rfl⟩
  | preampReset => exact ⟨rfl, fun _ => rfl, fun _ => rfl⟩
  | _ => exact ⟨rfl, id, id⟩

/-- Only a write of head select or a preamplifier reset moves the head select shadow (R138, R145). -/
theorem WriteKind.dress_headSel {k : WriteKind} (h : k ∉ [.headSelect, .levelRegister, .preampReset]) (addr : Addr)
    (data : Byte) (ch : Channel) : (k.dress addr data ch).port.headSel = ch.port.headSel := by
  cases k with
  | headSelect | preampReset => simp at h
  | _ => rfl

theorem Channel.Touched.heads_length {ch ch' : Channel} (h : ch.Touched ch') : ch'.heads.length = ch.heads.length := by
  simpa using congrArg List.length h.heats

/-- A port freed by the completion of its relayed frame (R133, R134): `ch₁` is the channel the frame's effect leaves. -/
theorem Channel.PortLaw.completed {c : Chan} {slot : Option SlotFrame} {ch ch₁ : Channel} (h : ch.PortLaw c slot)
    (hc : ch.carriesRelayed = true) (hl : ch₁.port.learning = ch.port.learning)
    (hp : ch.port.page.isSome → ch₁.port.page.isSome) (hs : ch.port.headSel.isSome → ch₁.port.headSel.isSome) :
    Channel.PortLaw c none { ch₁ with port := { ch₁.port with job := none } } := by
  obtain ⟨began, page, hj⟩ := Channel.carriesRelayed_iff.1 hc
  have hlearn : ch.port.learning = .complete := by
    by_contra hn
    obtain ⟨-, hw | ⟨hw, -⟩⟩ := (h.learning hn).2 _ hj <;> cases hw
  obtain ⟨hpage, hsel, -⟩ := h.learned hlearn
  exact ⟨nofun, fun _ => ⟨rfl, nofun⟩, fun hn => absurd (hl.trans hlearn) hn, fun _ => ⟨hp hpage, hs hsel, nofun⟩⟩

/-- Nothing is held for a port that has been freed. -/
theorem Channel.HeldLaw.completed {c : Chan} {ch₁ : Channel}
    (h : ∀ r ∈ ch₁.queue, r.served = true → r.head = ch₁.shadowHead ∧ r.head.isSome) :
    Channel.HeldLaw c none { ch₁ with port := { ch₁.port with job := none } } where
  held h := by cases h
  upkeep h := by cases h
  shadow := h

theorem State.RelayLaw.effect_shadow {s : State} (hr : s.RelayLaw) {c : Chan} {page : Option Nibble} {addr : Addr}
    {data : Byte} (hw : s.writeCompletes c page addr data) (hq : (s.ch c).QueueLaw s.now (s.delay c)) :
    let ch₁ := (writeKind s.loaded.pageParam page addr data).effect s.now addr data (s.ch c)
    ∀ r ∈ ch₁.queue, r.served = true → r.head = ch₁.shadowHead ∧ r.head.isSome := by
  generalize hk : writeKind s.loaded.pageParam page addr data = k
  have hd := k.dress_dressed addr data (s.ch c)
  have hplan := k.plan_planned (now := s.now) (start := false) (k.dress addr data (s.ch c))
  have hdist : (k.dress addr data (s.ch c)).RisesDistinct := by
    rw [Channel.RisesDistinct, hd.queue]; exact hq.risesDistinct
  intro ch₁ r hrq hs
  have he : ch₁ = k.plan s.now (k.dress addr data (s.ch c)) := WriteKind.effect_eq ..
  rw [he] at hrq ⊢
  obtain ⟨x, hx, hf⟩ := (hplan.keeps hdist).queue.exists_of_mem hrq
  rw [hd.queue] at hx
  have hxs := hf.served hs
  by_cases hp : k ∈ [.headSelect, .levelRegister, .preampReset]
  · have hi := hr.inactive_of_protected hw (protectedFrame_of_writeKind (hk ▸ hp))
    exact absurd hxs (List.any_eq_false.1 (Channel.any_served_of_inactive hi) x hx)
  · rw [hf.head, hplan.local.shadowHead]
    have : (k.dress addr data (s.ch c)).shadowHead = (s.ch c).shadowHead := by
      simp only [Channel.shadowHead, k.dress_headSel hp, hd.heads_length]
    rw [this]
    exact hr.shadow c x hx hxs

@[simp] theorem State.ch_reception (c : Chan) (x : Reception) (s : State) :
    State.ch c { s with reception := x } = s.ch c := by cases c <;> rfl

theorem readEffect_port (l : LoadedCopy) (addr : Addr) (hold : ReadHold) (byte : Byte) (ch : Channel) :
    (readEffect l addr hold byte ch).port = ch.port := by
  unfold readEffect; split <;> simp

/-- Every answer of a command of a channel keeps the law of its link. -/
theorem State.Answer.relayLaw {c : Chan} {s t : State} {i : Instr} (h : s.Answer c i t) (hr : s.RelayLaw)
    (hq : (s.ch c).QueueLaw s.now (s.delay c)) (hp : (s.ch c).PlanLaw) : t.RelayLaw := by
  obtain ⟨hline, hlink⟩ := State.relayLaw_iff.1 hr
  obtain ⟨hport, hheld⟩ := hlink c
  obtain ⟨hport', hheld'⟩ := hlink (otherChan c)
  -- a change of the channel alone
  have local_ {ch' : Channel} (hrun : s.phase = .running) (h : ch'.PortLaw c s.slot ∧ ch'.HeldLaw c s.slot) :
      State.RelayLaw (s.upd c fun _ => ch') := by
    refine State.relayLaw_iff.2 ⟨⟨?_, ?_, ?_, ?_⟩, fun d => ?_⟩
    · simpa using hline.rdy
    · intro hn; simp [hrun] at hn
    · simpa using hline.reading
    · simpa using hline.receiving
    · rcases eq_or_eq_otherChan c d with rfl | rfl
      · simpa using h
      · simpa using hlink (otherChan c)
  -- a completion, which empties the slot
  have completed {k : FrameKind} {f : Channel → Channel} {x : Reception} (hrun : s.phase = .running)
      (hs : s.slot = some ⟨c, k⟩)
      (h₁ : Channel.PortLaw c none { f (s.ch c) with port := { (f (s.ch c)).port with job := none } })
      (h₂ : Channel.HeldLaw c none { f (s.ch c) with port := { (f (s.ch c)).port with job := none } })
      (hx : ∀ d, x ≠ .reading d) : State.RelayLaw { s.delivered c f with reception := x } := by
    have hother : ∀ k', s.slot ≠ some ⟨otherChan c, k'⟩ := by
      intro k' hk'
      rw [hs] at hk'
      simp at hk'
    have hn := hport'.carriesRelayed_other hother
    have hslot : (s.delivered c f).slot = none := by simp
    refine State.relayLaw_iff.2 ⟨⟨?_, ?_, ?_, ?_⟩, fun d => ?_⟩
    · simpa using hrun
    · intro hn; simp [hrun] at hn
    · simpa using hx
    · simp
    · rw [State.ch_reception]
      show Channel.PortLaw d (s.delivered c f).slot _ ∧ Channel.HeldLaw d (s.delivered c f).slot _
      rw [hslot]
      rcases eq_or_eq_otherChan c d with rfl | rfl
      · rw [State.delivered_ch]; exact ⟨h₁, h₂⟩
      · rw [State.delivered_ch_other]
        exact ⟨hport'.of_slot hn (fun _ _ he => nomatch he), hheld'.of_slot hn⟩
  cases h with
  | unchanged => exact hr
  | move hrun h => exact local_ hrun ⟨hport.local h.local, hheld.move h hq hp⟩
  | frame hrun h => exact local_ hrun (h.linkLaw hport hheld)
  | @write k page addr data _ hw hk =>
    obtain ⟨hrun, hs, began, hj, -⟩ := id hw
    obtain ⟨hl, hpage, hsel⟩ := k.effect_port s.now addr data (s.ch c)
    have := completed (f := k.effect s.now addr data) (x := s.reception) hrun hs
      (hport.completed (Channel.carriesRelayed_iff.2 ⟨_, _, hj⟩) hl hpage hsel)
      (.completed (hk ▸ hr.effect_shadow hw hq)) fun d hd => by
        obtain ⟨a, ha⟩ := (hline.reading d).1 hd
        rw [hs] at ha
        cases ha
    have he : { s.delivered c (k.effect s.now addr data) with reception := s.reception } =
        s.delivered c (k.effect s.now addr data) := by cases c <;> rfl
    rwa [he] at this
  | @read k byte addr hold _ hrd _ =>
    obtain ⟨hrun, hs, began, page, hj, -⟩ := hrd
    have hpe := readEffect_port s.loaded addr hold byte (s.ch c)
    have ht := readEffect_touched s.loaded addr hold byte (s.ch c)
    refine completed hrun hs
      (hport.completed (Channel.carriesRelayed_iff.2 ⟨_, _, hj⟩) (by rw [hpe]) (by rw [hpe]; exact id)
        (by rw [hpe]; exact id)) (.completed fun r hrq hsv => ?_) fun d hd => ?_
    · have : (readEffect s.loaded addr hold byte (s.ch c)).shadowHead = (s.ch c).shadowHead := by
        simp only [Channel.shadowHead, hpe, ht.heads_length]
      rw [this]
      exact hheld.shadow r (ht.queue ▸ hrq) hsv
    · unfold receptionAfterRead at hd
      split at hd
      · next c' hc' =>
        split at hd
        · cases hd
        · next hne =>
          obtain ⟨a, ha⟩ := (hline.reading c').1 hc'
          rw [hs] at ha
          cases ha
          exact hne rfl
      all_goals next hc' => rw [hc'] at hd; cases hd

/-! ## Upstream frames -/

section
variable {s : State} (hr : s.RelayLaw)
include hr

/-- A change of the reception alone, to one that waits for no read. -/
theorem State.RelayLaw.of_reception {x : Reception} (hs : ∀ c, s.reception ≠ .reading c) (hx : ∀ c, x ≠ .reading c)
    (hrdy : ∀ c, x = .receiving c → s.rdy = true) : State.RelayLaw { s with reception := x } := by
  obtain ⟨hline, hlink⟩ := State.relayLaw_iff.1 hr
  refine State.relayLaw_iff.2 ⟨⟨hline.rdy, hline.reset, fun c => ?_, hrdy⟩, hlink⟩
  exact iff_of_false (hx c) fun h => hs c ((hline.reading c).2 h)

/-- A frame enters the empty slot (R133, R134). -/
theorem State.RelayLaw.fill {c : Chan} {k : FrameKind} {x : Reception} (hp : (s.ch c).heads ≠ []) (hs : s.slot = none)
    (hrun : s.phase = .running) (hread : ∀ d, x = .reading d ↔ ∃ addr, (⟨c, k⟩ : SlotFrame) = ⟨d, .read addr .held⟩)
    (hx : ∀ d, x ≠ .receiving d) : State.RelayLaw { s.fillSlot ⟨c, k⟩ with reception := x } := by
  obtain ⟨hline, hlink⟩ := State.relayLaw_iff.1 hr
  refine State.relayLaw_iff.2 ⟨⟨?_, fun hn => absurd hrun hn, fun d => ?_, fun d he => absurd he (hx d)⟩, fun d => ?_⟩
  · simp [State.fillSlot]
  · rw [hread d]
    simp [State.fillSlot]
  · obtain ⟨hport, hheld⟩ := hlink d
    have hn : (s.ch d).carriesRelayed = false := hport.carriesRelayed_other fun k' he => by rw [hs] at he; cases he
    refine ⟨hport.of_slot hn fun he f hf => ?_, hheld.of_slot hn⟩
    cases hf
    rintro rfl
    exact hp he

/-- A read in the slot is given up (R134). -/
theorem State.RelayLaw.giveUpRead {c : Chan} {hold : ReadHold} {x : Reception} (hread : s.reception = .reading c)
    (hh : hold ≠ .held) (hx : ∀ d, x ≠ .reading d ∧ x ≠ .receiving d) :
    State.RelayLaw { s.giveUpRead c hold with reception := x } := by
  obtain ⟨hline, hlink⟩ := State.relayLaw_iff.1 hr
  obtain ⟨addr, hs⟩ := (hline.reading c).1 hread
  have hrun : s.phase = .running := by
    by_contra hn
    rw [(hline.reset hn).1] at hs; cases hs
  unfold State.giveUpRead
  split
  · next hc =>
    rw [hs]
    refine State.relayLaw_iff.2 ⟨⟨?_, fun hn => absurd hrun hn, fun d => ?_, fun d he => absurd he (hx d).2⟩,
      fun d => ?_⟩
    · refine hline.rdy.trans (and_congr_right fun _ => ?_)
      rw [hs]
      exact iff_of_false nofun nofun
    · refine iff_of_false (hx d).1 ?_
      rintro ⟨a, ha⟩
      cases ha
      exact hh rfl
    · obtain ⟨hport, hheld⟩ := hlink d
      refine ⟨⟨fun began page hj => ?_, fun he => ⟨(hport.parked he).1, fun f hf => ?_⟩, hport.learning, hport.learned⟩,
        ⟨fun hcd hp => ?_, hheld.upkeep, hheld.shadow⟩⟩
      · obtain ⟨hpage, k, hk⟩ := hport.relayed began page hj
        rw [hs] at hk
        cases hk
        exact ⟨hpage, _, rfl⟩
      · cases hf
        exact (hport.parked he).2 ⟨c, .read addr .held⟩ hs
      · obtain ⟨k, hk, hprot⟩ := Channel.holdsProtected_iff.1 hp
        cases hk
        cases hprot
  · next hc =>
    refine State.relayLaw_iff.2 ⟨⟨?_, fun hn => absurd hrun hn, fun d => ?_, fun d he => absurd he (hx d).2⟩,
      fun d => ?_⟩
    · simpa [State.emptySlot] using hrun
    · refine iff_of_false (hx d).1 ?_
      rintro ⟨a, ha⟩
      cases ha
    · obtain ⟨hport, hheld⟩ := hlink d
      have hn : (s.ch d).carriesRelayed = false := by
        rw [Bool.eq_false_iff]
        intro hcd
        obtain ⟨began, page, hj⟩ := Channel.carriesRelayed_iff.1 hcd
        obtain ⟨-, k, hk⟩ := hport.relayed began page hj
        rw [hs] at hk
        cases hk
        exact hc hcd
      exact ⟨hport.of_slot hn (fun _ _ he => nomatch he), hheld.of_slot hn⟩

theorem State.RelayLaw.receiveWrite {c : Chan} (h : s.reception = .receiving c) (bits : List Bool) :
    (s.receiveWrite c bits).RelayLaw := by
  have hrun := (hr.rdy.1 (hr.receiving c h)).1
  have hidle : State.RelayLaw { s with reception := .idle } :=
    hr.of_reception (fun d => by rw [h]; nofun) nofun nofun
  unfold State.receiveWrite
  dsimp only
  split
  · next hc =>
    refine State.RelayLaw.fill (s := { s with reception := .idle }) hidle (fun he => hc.2.1 ?_) hc.2.2 hrun (fun d =>
      ?_) nofun
    · exact List.isEmpty_iff.2 he
    · exact iff_of_false nofun (by rintro ⟨a, ha⟩; cases ha)
  · exact hidle

theorem State.RelayLaw.receiveRead {c : Chan} (h : s.reception = .receiving c) (bits : List Bool) :
    (s.receiveRead c bits).RelayLaw := by
  have hrun := (hr.rdy.1 (hr.receiving c h)).1
  unfold State.receiveRead
  split
  · exact hr.of_reception (fun d => by rw [h]; nofun) nofun nofun
  · next hc =>
    rw [not_or] at hc
    refine hr.fill (fun he => hc.1 (List.isEmpty_iff.2 he)) (by simpa using hc.2) hrun (fun d => ?_) nofun
    constructor
    · intro he; cases he; exact ⟨_, rfl⟩
    · rintro ⟨a, ha⟩; cases ha; rfl

/-- Every upstream frame keeps the law of the relay. -/
theorem State.RelayLaw.upstream {i : Instr} {t : State} (hc : i.channel = none) (hi : i.isReset = false)
    (h : exec i s = .next t) : t.RelayLaw := by
  cases i <;> cases hc <;> cases hi
  case upstreamFrameStart.refl.refl selA selB =>
    simp only [exec, execUpstreamFrameStart] at h
    split at h
    · next hidle =>
      cases h
      refine hr.of_reception (fun d => by rw [hidle.1]; nofun) (fun d => ?_) (fun d => ?_)
      · unfold frameBegun; split <;> nofun
      · unfold frameBegun
        split
        · next hb => exact fun _ => (Bool.and_eq_true_iff.1 hb).1
        · nofun
    · cases h; exact hr
  case upstreamWriteEnd.refl.refl bits =>
    simp only [exec, execUpstreamWriteEnd] at h
    split at h
    · next c hrec =>
      split at h <;> cases h
      · exact hr.receiveWrite hrec bits
      · exact hr
    · next hrec => cases h; exact hr.of_reception (fun d => by rw [hrec]; nofun) nofun nofun
    all_goals cases h; exact hr
  case upstreamReadAddress.refl.refl bits =>
    simp only [exec, execUpstreamReadAddress] at h
    split at h
    · next c hrec =>
      split at h <;> cases h
      · exact hr.receiveRead hrec bits
      · exact hr
    all_goals cases h; exact hr
  case earlyRelease.refl.refl =>
    simp only [exec, execEarlyRelease] at h
    split at h <;> cases h
    · next c hrec => exact hr.giveUpRead hrec (by decide) fun d => ⟨nofun, nofun⟩
    all_goals exact hr
  case doubleSelect.refl.refl =>
    simp only [exec, execDoubleSelect] at h
    split at h <;> cases h
    · next hrec => exact hr.of_reception (fun d => by rw [hrec]; nofun) nofun nofun
    · next c hrec => exact hr.giveUpRead hrec (by decide) fun d => ⟨nofun, nofun⟩
    · next hrec => exact hr.of_reception (fun d => by rw [hrec]; nofun) nofun nofun
    all_goals exact hr
  case upstreamReadEnd.refl.refl =>
    simp only [exec, execUpstreamReadEnd] at h
    split at h <;> cases h
    · next hrec => exact hr.of_reception (fun d => by rw [hrec]; nofun) nofun nofun
    · next hrec => exact hr.of_reception (fun d => by rw [hrec]; nofun) nofun nofun
    · next hrec => exact hr.of_reception (fun d => by rw [hrec]; nofun) nofun nofun
    all_goals exact hr

end

end Sys2Proof.Machine
end

section
/-! SUPPORT. All the laws of the part, by channels; the resets and the passing of a quantum; and the statement that
every step keeps them. -/

namespace Sys2Proof.Machine

/-! ## The laws by channels -/

/-- The laws of one channel at an instant, among those of `State.Lawful`. -/
structure Channel.Laws (c : Chan) (now delay heads : Nat) (running : Prop) (slot : Option SlotFrame) (ch : Channel) :
    Prop where
  filter : ch.FilterLaw
  queue : ch.QueueLaw now delay
  plan : ch.PlanLaw
  res : ch.ResLaw
  cover : ch.CoverLaw
  journal : ch.JournalLaw
  monitor : ch.MonitorLaw
  heat : ch.HeatLaw now heads running
  port : ch.PortLaw c slot
  held : ch.HeldLaw c slot

/-- The laws of channel `c` in a state. -/
def State.ChannelLaws (c : Chan) (s : State) : Prop :=
  (s.ch c).Laws c s.now (s.delay c) (s.loaded.heads c) (s.phase = .running) s.slot

theorem State.lawful_iff {s : State} : s.Lawful ↔
    s.loaded.Law ∧ s.chA.res + s.chB.res ≤ s.loaded.budget ∧ s.LineLaw ∧ ∀ c, s.ChannelLaws c := by
  constructor
  · rintro ⟨hl, hf, hq, hp, ⟨hsum, hmost, hquiet⟩, hc, hj, hm, hh, hr⟩
    obtain ⟨hline, hlink⟩ := State.relayLaw_iff.1 hr
    exact ⟨hl, hsum, hline, fun c => ⟨hf c, hq c, hp c, ⟨hmost c, hquiet c⟩, hc c, hj c, hm c,
      State.heatLaw_iff.1 (hh c), (hlink c).1, (hlink c).2⟩⟩
  · rintro ⟨hl, hsum, hline, h⟩
    exact ⟨hl, fun c => (h c).filter, fun c => (h c).queue, fun c => (h c).plan,
      ⟨hsum, fun c => (h c).res.most, fun c => (h c).res.quiet⟩, fun c => (h c).cover, fun c => (h c).journal,
      fun c => (h c).monitor, fun c => State.heatLaw_iff.2 (h c).heat,
      State.relayLaw_iff.2 ⟨hline, fun c => ⟨(h c).port, (h c).held⟩⟩⟩

/-! ## Commands of a channel -/

theorem State.Answer.fields {c : Chan} {s t : State} {i : Instr} (h : s.Answer c i t) :
    t.now = s.now ∧ t.phase = s.phase ∧ t.loaded = s.loaded := by
  cases h with
  | unchanged => exact ⟨rfl, rfl, rfl⟩
  | move => simp
  | frame => simp
  | write => simp
  | read => simp

theorem State.sum_le_of_avail {s : State} {c : Chan} {n : Nat} (h : s.chA.res + s.chB.res ≤ s.loaded.budget)
    (hn : n ≤ (s.ch c).res ∨ (n : Int) ≤ s.avail c) : n + (s.ch (otherChan c)).res ≤ s.loaded.budget := by
  unfold State.avail at hn
  cases c
  · have h1 : s.ch .a = s.chA := rfl
    have h2 : s.ch (otherChan .a) = s.chB := rfl
    rw [h1] at hn
    rw [h2] at hn ⊢
    omega
  · have h1 : s.ch .b = s.chB := rfl
    have h2 : s.ch (otherChan .b) = s.chA := rfl
    rw [h1] at hn
    rw [h2] at hn ⊢
    omega

theorem State.res_add (c : Chan) (s : State) : s.chA.res + s.chB.res = (s.ch c).res + (s.ch (otherChan c)).res := by
  cases c
  · rfl
  · exact Nat.add_comm _ _

/-- Every answer of a command of a channel keeps the laws. -/
theorem State.Lawful.answer {c : Chan} {s t : State} {i : Instr} (hs : s.Lawful) (h : s.Answer c i t) : t.Lawful := by
  obtain ⟨hl, hsum, -, hch⟩ := State.lawful_iff.1 hs
  obtain ⟨hnow, hphase, hloaded⟩ := h.fields
  have hother := h.ch_other
  have hc := hch c
  have ho := hch (otherChan c)
  have hf := h.factors
  obtain ⟨hres, hle⟩ := hf.resLaw hc.queue hc.res
  have hrelay := h.relayLaw hs.relay hc.queue hc.plan
  obtain ⟨hline, hlink⟩ := State.relayLaw_iff.1 hrelay
  have hdelay : ∀ d, t.delay d = s.delay d := fun d => by rw [State.delay, hloaded]; rfl
  refine State.lawful_iff.2 ⟨hloaded ▸ hl, ?_, hline, fun d => ?_⟩
  · rw [State.res_add c, hother, hloaded]
    exact State.sum_le_of_avail hsum hle
  · obtain ⟨hport, hheld⟩ := hlink d
    unfold State.ChannelLaws
    rcases eq_or_eq_otherChan c d with rfl | rfl
    · rw [hnow, hphase, hloaded, hdelay]
      exact ⟨hf.filterLaw hc.filter, hf.queueLaw hl hc.queue, h.planLaw hc.queue hc.plan, hres,
        h.coverLaw hs.relay hc.queue hc.cover, h.journalLaw hc.journal, h.monitorLaw hc.plan hc.monitor,
        h.heatLaw hc.heat, hport, hheld⟩
    · rw [hother] at hport hheld ⊢
      rw [hnow, hphase, hloaded, hdelay]
      exact ⟨ho.filter, ho.queue, ho.plan, ho.res, ho.cover, ho.journal, ho.monitor, ho.heat, hport, hheld⟩

/-! ## Upstream frames -/

theorem State.Lawful.upstream {s t : State} {i : Instr} (hs : s.Lawful) (hc : i.channel = none) (hi : i.isReset = false)
    (h : exec i s = .next t) : t.Lawful := by
  obtain ⟨hl, hsum, -, hch⟩ := State.lawful_iff.1 hs
  have hb := exec_upstream_sameBut hc hi h
  obtain ⟨hline, hlink⟩ := State.relayLaw_iff.1 (hs.relay.upstream hc hi h)
  have hcopy : t.now = s.now ∧ t.phase = s.phase ∧ t.loaded = s.loaded ∧ t.chA = s.chA ∧ t.chB = s.chB := by
    rw [hb]; exact ⟨rfl, rfl, rfl, rfl, rfl⟩
  obtain ⟨hnow, hphase, hloaded, hA, hB⟩ := hcopy
  refine State.lawful_iff.2 ⟨hloaded ▸ hl, by rw [hA, hB, hloaded]; exact hsum, hline, fun d => ?_⟩
  obtain ⟨hport, hheld⟩ := hlink d
  have hd := hch d
  unfold State.ChannelLaws
  rw [hb.ch] at hport hheld ⊢
  rw [hnow, hphase, hloaded, State.delay, hloaded]
  exact ⟨hd.filter, hd.queue, hd.plan, hd.res, hd.cover, hd.journal, hd.monitor, hd.heat, hport, hheld⟩

/-! ## Resets -/

/-- A channel with every block in its reset state (R174): held while the reset lasts, started at its end. -/
def Channel.reset (mark : Bool) (heads nextTick : Nat) (learning : Learning) (pending : List PendingRecord) : Channel :=
  { disregard := mark
    plan := if heads = 0 then .parked else .rest
    heads := List.replicate heads {}
    nextTick := nextTick
    port := { learning := learning }
    jnl := { pending := pending } }

theorem Channel.held_eq_reset (heads : Nat) : Channel.held heads = Channel.reset false heads 0 .absent [] := rfl

theorem Channel.started_eq_reset (heads now : Nat) (mark : Bool) (detail : Byte) :
    Channel.started heads now mark detail = Channel.reset mark heads (now + 256)
      (if heads = 0 then .absent else .queued) [⟨.started, 0x0F, detail, 1⟩] := rfl

theorem Channel.reset_planLaw (mark : Bool) (heads nextTick : Nat) (learning : Learning)
    (pending : List PendingRecord) :
    (Channel.reset mark heads nextTick learning pending).PlanLaw := by
  have hplan : (Channel.reset mark heads nextTick learning pending).plan = if heads = 0 then .parked else .rest := rfl
  have hserve : (Channel.reset mark heads nextTick learning pending).plan.serving = false := by
    rw [hplan]; split <;> rfl
  constructor
  · exact iff_of_false Bool.false_ne_true nofun
  · rw [hserve]; nofun
  · rw [hserve]; nofun
  · exact fun _ r hr => by cases hr
  · exact fun _ => rfl
  · exact fun _ => rfl
  · exact fun _ => rfl
  · exact fun _ => .inr rfl
  · show (-32 : Int) ≤ 0 ∧ (0 : Int) ≤ 31
    decide
  · exact fun _ => rfl
  · rw [hplan]
    intro _
    refine iff_of_false nofun ?_
    split <;> nofun
  · rw [hplan]
    have hheads : (Channel.reset mark heads nextTick learning pending).heads = List.replicate heads {} := rfl
    rw [hheads, List.replicate_eq_nil_iff]
    split <;> simp [*]

theorem Channel.queueLaw_nil {now delay : Nat} {ch : Channel} (hq : ch.queue = []) : ch.QueueLaw now delay := by
  constructor <;> simp [hq]

/-- A port that is free and has learned nothing keeps its law (R139, R146). -/
theorem Channel.portLaw_unlearned {c : Chan} {ch : Channel} (hj : ch.port.job = none) (hh : ch.port.headSel = none)
    (hl : ch.port.learning ≠ .complete) : ch.PortLaw c none := by
  constructor <;> simp [hj, hh, hl]

/-- A free port of a channel without records keeps the law of what is held. -/
theorem Channel.heldLaw_nil {c : Chan} {ch : Channel} (hj : ch.port.job = none) (hq : ch.queue = []) :
    ch.HeldLaw c none := by
  constructor <;> simp [Channel.carriesRelayed, Channel.upkeepRunning, hj, hq]

/-- Heads as a reset leaves them keep the law of the heats (R72). -/
theorem Channel.heatLaw_reset {now heads : Nat} {running : Prop} {ch : Channel}
    (hh : ch.heads = List.replicate heads {})
    (ht : running → now ≤ ch.nextTick ∧ ch.nextTick - now ≤ ch.tickPeriod) : ch.HeatLaw now heads running := by
  have hmem : ∀ h ∈ ch.heads, h = {} := fun h hx => List.eq_of_mem_replicate (hh ▸ hx)
  have hzero : (ch.heads.map (·.tally.total)).sum = 0 := List.sum_eq_zero fun x hx => by
    obtain ⟨h, hh, rfl⟩ := List.mem_map.1 hx
    rw [hmem h hh]; rfl
  refine ⟨by rw [hh, List.length_replicate], fun h hx => ?_, fun h hx => ?_, fun hr => ?_⟩
  · rw [hmem h hx]; exact Nat.zero_le _
  · rw [hmem h hx]; intro l hl; cases hl
  · rw [hzero, Nat.zero_add]; exact ht hr

/-- A channel in its reset state keeps the laws, once its tick timer and its pending list do (R174). -/
theorem Channel.reset_laws {c : Chan} {now delay heads nextTick : Nat} {running : Prop} {mark : Bool}
    {learning : Learning}
    {pending : List PendingRecord} (hl : learning ≠ .complete) (hj : Journal.listLawful { pending := pending })
    (ht : running → now ≤ nextTick ∧ nextTick - now ≤ 256) :
    (Channel.reset mark heads nextTick learning pending).Laws c now delay heads running none where
  filter := ⟨Nat.zero_le 2, Nat.zero_le 2⟩
  queue := Channel.queueLaw_nil rfl
  plan := Channel.reset_planLaw ..
  res := ⟨Nat.zero_le 286, fun _ => rfl⟩
  cover := .of_quiet rfl
  journal := by
    have hfree : ∀ n : BitVec 3, (List.replicate 8 SlotState.free)[n.toNat]? ≠ some .filling := by decide
    exact .of_noRecord hj rfl hfree fun _ _ _ h => by cases h
  monitor := Channel.monitorLaw_iff.2 ⟨⟨rfl, fun _ => ⟨rfl, rfl⟩, ⟨Nat.succ_pos 14, Nat.succ_pos 1⟩, Nat.zero_le 3⟩,
    show (64 : Nat) ∈ [32, 64, 128, 256] ∧ 1 ≤ 4 ∧ 4 ≤ 15 ∧ 1 ≤ 3 by decide⟩
  heat := Channel.heatLaw_reset rfl ht
  port := Channel.portLaw_unlearned rfl rfl hl
  held := Channel.heldLaw_nil rfl rfl

theorem Channel.held_laws {c : Chan} {now delay heads : Nat} {running : Prop} (hr : ¬ running) :
    (Channel.held heads).Laws c now delay heads running none :=
  Channel.held_eq_reset heads ▸ Channel.reset_laws (by decide) ⟨by decide, .nil, nofun⟩ fun h => absurd h hr

theorem Channel.started_laws {c : Chan} {now delay heads : Nat} {running : Prop} (mark : Bool) (detail : Byte) :
    (Channel.started heads now mark detail).Laws c now delay heads running none := by
  rw [Channel.started_eq_reset]
  refine Channel.reset_laws ?_ ⟨Nat.succ_pos 11, List.pairwise_singleton _ _, fun p hp => ?_⟩ fun _ => ?_
  · split <;> decide
  · rw [List.mem_singleton.1 hp]; exact ⟨le_rfl, Nat.succ_pos 254⟩
  · omega

theorem clampDelayByte_bounds (b : Nat) : 20 ≤ clampDelayByte b ∧ clampDelayByte b ≤ 200 := by
  unfold clampDelayByte
  split_ifs <;> omega

theorem frameTimeOf_mem (code : Nat) : frameTimeOf code ∈ [40, 80, 120, 160] := by
  unfold frameTimeOf
  split
  · decide
  · interval_cases code <;> decide

/-- Page numbers that do not clash are in range as they stand (R173). -/
theorem pages_of_not_clash {p j : Nat} (hp : p < 16) (hj : j < 16) (h : pagesClash p j = false) :
    BitVec.ofNat 4 p ≠ 0 ∧ BitVec.ofNat 4 p ≠ 1 ∧ BitVec.ofNat 4 j ≠ 0 ∧ BitVec.ofNat 4 j ≠ 1 ∧
      BitVec.ofNat 4 p ≠ BitVec.ofNat 4 j := by
  simp only [pagesClash, Bool.or_eq_false_iff, beq_eq_false_iff_ne, ne_eq] at h
  have hne {a b : Nat} (ha : a < 16) (hb : b < 16) (hab : a ≠ b) : BitVec.ofNat 4 a ≠ BitVec.ofNat 4 b := by
    intro he
    have := congrArg BitVec.toNat he
    simp only [BitVec.toNat_ofNat] at this
    omega
  obtain ⟨⟨⟨⟨h1, h2⟩, h3⟩, h4⟩, h5⟩ := h
  exact ⟨hne hp (by decide) h1, hne hp (by decide) h2, hne hj (by decide) h3, hne hj (by decide) h4, hne hp hj h5⟩

/-- The values that eight option bytes give are in range (R171 to R173). -/
theorem loadOptions_law (bytes : List Byte) : (loadOptions bytes).Law := by
  have hbyte : ∀ i, optionByte bytes i ≤ 255 := fun i => Nat.le_of_lt_succ (bytes.getD i 0).isLt
  have hdelay : ∀ b, 40 ≤ 2 * clampDelayByte b ∧ 2 * clampDelayByte b ≤ 400 ∧ 2 * clampDelayByte b % 2 = 0 := by
    intro b
    have := clampDelayByte_bounds b
    omega
  have hbudget : 4 * optionByte bytes 4 ≤ 1020 ∧ 4 * optionByte bytes 4 % 4 = 0 := by
    have := hbyte 4
    omega
  unfold loadOptions
  split
  · exact ⟨fun c => by cases c <;> decide, fun c => by cases c <;> decide, by decide, by decide, by decide⟩
  refine ⟨fun c => ?_, fun c => ?_, hbudget, ?_, frameTimeOf_mem _⟩
  · cases c <;> exact Nat.min_le_left ..
  · cases c <;> exact hdelay _
  · dsimp only
    cases hclash : pagesClash (optionByte bytes 5 / 16) (optionByte bytes 5 % 16)
    · have := hbyte 5
      exact pages_of_not_clash (by omega) (by omega) hclash
    · simp only [if_true]
      decide

/-- What is left of the laws in a reset, and at its end: no frame and no reservation (R89, R146). -/
theorem State.Lawful.of_reset {s : State} (hl : s.loaded.Law) (hres : s.chA.res = 0 ∧ s.chB.res = 0)
    (hslot : s.slot = none)
    (hrdy : s.rdy = true ↔ s.phase = .running) (hread : ∀ c, s.reception ≠ .reading c)
    (hrec : s.phase ≠ .running → ∀ c, s.reception ≠ .receiving c) (hch : ∀ c, s.ChannelLaws c)
    (hjob : ∀ c, (s.ch c).port.job = none) : s.Lawful := by
  refine State.lawful_iff.2 ⟨hl, by rw [hres.1, hres.2]; exact Nat.zero_le _, ⟨?_, ?_, ?_, ?_⟩, hch⟩
  · rw [hrdy, hslot]; simp
  · exact fun _ => ⟨hslot, hjob⟩
  · intro c
    rw [hslot]
    exact iff_of_false (hread c) nofun
  · intro c hc
    exact hrdy.2 (by by_contra hn; exact hrec hn c hc)

theorem State.Lawful.of_hold {s : State} (hl : s.loaded.Law) {p : Phase} (hp : p ≠ .running) {x : Reception}
    (hx : ∀ c, x ≠ .reading c ∧ x ≠ .receiving c) : State.Lawful { s.hold with phase := p, reception := x } := by
  have hch : ∀ c, State.ch c { s.hold with phase := p, reception := x } = Channel.held (s.loaded.heads c) := fun c => by
    cases c <;> rfl
  refine .of_reset hl ⟨rfl, rfl⟩ rfl (iff_of_false Bool.false_ne_true hp) (fun c => (hx c).1) (fun _ c => (hx c).2)
    (fun c => ?_) fun c => by rw [hch]; rfl
  unfold State.ChannelLaws
  rw [hch]
  exact Channel.held_laws hp

theorem State.Lawful.of_endReset {s : State} (hl : s.loaded.Law) (hx : ∀ c, s.reception ≠ .reading c) (uwgA uwgB : Bool)
    (detail : Byte) : (s.endReset uwgA uwgB detail).Lawful := by
  refine .of_reset hl ⟨rfl, rfl⟩ rfl (iff_of_true rfl rfl) hx (fun hn => absurd rfl hn) (fun c => ?_) fun c => by
    cases c <;> rfl
  unfold State.ChannelLaws
  cases c <;> exact Channel.started_laws _ _

theorem State.Lawful.reset {s t : State} {i : Instr} (hs : s.Lawful) (hi : i.isReset = true) (h : exec i s = .next t) :
    t.Lawful := by
  have hl := hs.loaded
  -- in a reset no read is waited for and no frame is received
  have hquiet (hn : s.phase ≠ .running) : ∀ c, s.reception ≠ .reading c ∧ s.reception ≠ .receiving c := by
    refine fun c => ⟨fun hc => ?_, fun hc => hn (hs.relay.rdy.1 (hs.relay.receiving c hc)).1⟩
    obtain ⟨a, ha⟩ := (hs.relay.reading c).1 hc
    rw [(hs.relay.reset hn).1] at ha
    cases ha
  have hline (b : Bool) : State.Lawful { s with rstn := b } := by
    obtain ⟨h1, h2, ⟨h3, h4, h5, h6⟩, h7⟩ := State.lawful_iff.1 hs
    exact State.lawful_iff.2 ⟨h1, h2, ⟨h3, h4, h5, h6⟩, h7⟩
  cases i <;> cases hi
  case powerOn.refl =>
    cases h
    exact .of_hold (p := .loading (s.now + 32)) (x := .idle) hl nofun fun _ => ⟨nofun, nofun⟩
  case optionLoadComplete.refl uwgA uwgB =>
    simp only [exec, execOptionLoadComplete] at h
    split at h
    · next due hp =>
      have hn : s.phase ≠ .running := by rw [hp]; nofun
      split at h
      · split at h <;> cases h
        · exact State.Lawful.of_endReset (s := s.load) (loadOptions_law _) (fun c => (hquiet hn c).1) ..
        · exact State.Lawful.of_hold (s := s.load) (p := .loadDone) (loadOptions_law _) nofun (hquiet hn)
      · cases h; exact hs
    all_goals cases h; exact hs
  case rstnFall.refl =>
    simp only [exec, execRstnFall] at h
    split at h <;> cases h
    · have hx : ∀ c, s.reception.cutByReset ≠ .reading c ∧ s.reception.cutByReset ≠ .receiving c := fun c => by
        cases s.reception <;> exact ⟨nofun, nofun⟩
      exact State.Lawful.of_hold (s := { s with rstn := false }) (p := .lineReset) hl nofun hx
    all_goals exact hline false
  case rstnRise.refl uwgA uwgB =>
    simp only [exec, execRstnRise] at h
    split at h <;> cases h
    · next hp => exact State.Lawful.of_endReset (s := { s with rstn := true }) hl (fun c =>
        (hquiet (by rw [hp]; nofun) c).1) ..
    · next hp => exact State.Lawful.of_endReset (s := { s with rstn := true }) hl (fun c =>
        (hquiet (by rw [hp]; nofun) c).1) ..
    all_goals exact hline true

/-- Every command keeps the laws. -/
theorem State.Lawful.exec {s t : State} {i : Instr} (hs : s.Lawful) (h : Machine.exec i s = .next t) : t.Lawful := by
  cases hc : i.channel with
  | some c => exact hs.answer (exec_answer hc h)
  | none =>
    cases hi : i.isReset with
    | true => exact hs.reset hi h
    | false => exact hs.upstream hc hi h

/-! ## One quantum -/

theorem heldAfter_le (filtered raw : Bool) (held : Nat) : heldAfter filtered raw held ≤ held + 1 := by
  unfold heldAfter; split <;> omega

/-- With no change of a gate filter due, neither has held its line for 2 quanta. -/
theorem held_lt_of_gateEvents {c : Chan} {s : State} (h : s.gateEvents c = []) :
    (s.ch c).uwgHeld < 2 ∧ (s.ch c).sgHeld < 2 := by
  simp only [State.gateEvents, List.append_eq_nil_iff, ite_eq_right_iff, List.cons_ne_nil, imp_false, riseTaken_iff,
    fallTaken_iff, servoRiseTaken_iff, servoFallTaken_iff] at h
  obtain ⟨⟨⟨⟨h1, h2⟩, h3⟩, h4⟩, -⟩ := h
  cases hu : (s.ch c).uwg <;> cases hg : (s.ch c).sg <;> simp only [hu, hg, true_and, not_le] at h1 h2 h3 h4 <;>
    exact ⟨by assumption, by assumption⟩

theorem sum_map_modify_le {α : Type} (f : α → Nat) (g : α → α) (hg : ∀ x, f (g x) ≤ f x + 1) (l : List α) (i : Nat) :
    ((l.modify i g).map f).sum ≤ (l.map f).sum + 1 := by
  induction l generalizing i with
  | nil => cases i <;> simp
  | cons x l ih =>
    cases i with
    | zero => simpa using by have := hg x; omega
    | succ i => simpa using by have := ih i; omega

theorem Tally.count_total (l : Level) (t : Tally) : (t.count l).total ≤ t.total + 1 := by
  cases l <;> simp only [Tally.count, Tally.total] <;> omega

/-- A quantum adds at most one count to the tally, and leaves the entries and the heats (R63). -/
theorem Channel.tallyQuantum_keeps (ch : Channel) :
    ch.tallyQuantum.map (·.cal) = ch.heads.map (·.cal) ∧ ch.tallyQuantum.map (·.heat) = ch.heads.map (·.heat) ∧
    (ch.tallyQuantum.map (·.tally.total)).sum ≤ (ch.heads.map (·.tally.total)).sum + 1 := by
  have fixed {α : Type} (f : Head → α) (g : Head → Head) (hg : ∀ h, f (g h) = f h) (i : Nat) :
      (ch.heads.modify i g).map f = ch.heads.map f := by
    refine List.ext_getElem? fun j => ?_
    simp only [List.getElem?_map, List.getElem?_modify]
    split
    · cases ch.heads[j]? <;> simp [hg]
    · simp
  unfold Channel.tallyQuantum
  split
  · exact ⟨fixed (·.cal) (fun h => { h with tally := h.tally.count ch.lvl }) (fun _ => rfl) _,
      fixed (·.heat) (fun h => { h with tally := h.tally.count ch.lvl }) (fun _ => rfl) _,
      sum_map_modify_le _ _ (fun h => h.tally.count_total ch.lvl) _ _⟩
  · exact ⟨rfl, rfl, Nat.le_succ _⟩

section
variable {c : Chan} {now delay heads : Nat} {ch : Channel}

/-- A quantum leaves the records but for the stall timers (R24). -/
theorem Channel.passQuantum_queue : ∃ g : BurstRecord → BurstRecord, (∀ r, g r = { r with stall := (g r).stall } ∧
    ((g r).stall.isSome = r.stall.isSome)) ∧ (ch.passQuantum c now delay).queue = ch.queue.map g := by
  by_cases hu : ch.uwg = true
  · exact ⟨BurstRecord.stallQuantum, fun r => ⟨rfl, by simp [BurstRecord.stallQuantum]⟩, if_pos hu⟩
  · exact ⟨id, fun r => ⟨rfl, rfl⟩, by rw [List.map_id]; exact if_neg hu⟩

theorem Channel.passQuantum_local : ch.Local (ch.passQuantum c now delay) :=
  ⟨rfl, ch.tallyQuantum_keeps.1, rfl, rfl, rfl, .none⟩

theorem Channel.QueueLaw.passQuantum (h : ch.QueueLaw now delay) {d : Nat} :
    (ch.passQuantum c now d).QueueLaw (now + 1) delay := by
  obtain ⟨g, hg, hq⟩ := ch.passQuantum_queue (c := c) (now := now) (delay := d)
  have hrise (r : BurstRecord) : (g r).rise = r.rise := by rw [(hg r).1]
  have hfall (r : BurstRecord) : (g r).fall = r.fall := by rw [(hg r).1]
  have hout (r : BurstRecord) : (g r).outcome = r.outcome := by rw [(hg r).1]
  have hheld : (ch.passQuantum c now d).uwgHeld ≤ ch.uwgHeld + 1 := heldAfter_le ..
  constructor <;> rw [hq]
  · rw [List.length_map]; exact h.depth
  · rw [List.pairwise_map]
    exact h.apart.imp fun ⟨f, hf, hlt⟩ => ⟨f, (hfall _).trans hf, (hrise _).symm ▸ hlt⟩
  all_goals
    intro r' hr'
    obtain ⟨r, hr, rfl⟩ := List.mem_map.1 hr'
  · rw [hrise]; exact Nat.le_succ_of_le (h.rises r hr)
  · rw [hfall, hrise]
    intro f hf
    obtain ⟨h1, h2, h3⟩ := h.falls r hr f hf
    exact ⟨h1, Nat.le_succ_of_le h2, fun hu => by have := h3 hu; omega⟩
  · rw [hfall]; exact h.openBurst r hr
  · rw [hfall, (hg r).2]; exact h.stalls r hr
  · rw [BurstRecord.served_congr (hout r), (hg r).1]; exact h.leads r hr
  · rw [BurstRecord.isAccepted_congr (hout r), (hg r).1]; exact h.ceilings r hr

/-- A quantum with nothing due keeps the laws of a channel. -/
theorem Channel.Laws.passQuantum {slot : Option SlotFrame} {running : Prop} {d : Nat}
    (h : ch.Laws c now delay heads running slot) (hheld : ch.uwgHeld < 2 ∧ ch.sgHeld < 2) (htick : now < ch.nextTick) :
    (ch.passQuantum c now d).Laws c (now + 1) delay heads running slot := by
  obtain ⟨g, hg, hq⟩ := ch.passQuantum_queue (c := c) (now := now) (delay := d)
  have hl : ch.Local (ch.passQuantum c now d) := Channel.passQuantum_local
  have hout (r : BurstRecord) : (g r).outcome = r.outcome := by rw [(hg r).1]
  have hany (p : BurstRecord → Bool) (hp : ∀ r, p (g r) = p r) :
    (ch.passQuantum c now d).queue.any p = ch.queue.any p := by
    rw [hq, List.any_map]
    exact congrArg (fun f => ch.queue.any f) (funext hp)
  have hacc := hany (·.isAccepted) fun r => BurstRecord.isAccepted_congr (hout r)
  have hsrv := hany (·.served) fun r => BurstRecord.served_congr (hout r)
  have hactive : (ch.passQuantum c now d).active = ch.active := by unfold Channel.active; rw [hsrv]; rfl
  obtain ⟨-, hheats, htotal⟩ := ch.tallyQuantum_keeps
  refine ⟨⟨?_, ?_⟩, h.queue.passQuantum, ?_, ⟨h.res.most, fun hn => h.res.quiet (hacc ▸ hn)⟩, fun r' hr' ha => ?_,
    h.journal.of_posts .none rfl, ⟨h.monitor.timer, h.monitor.cold, h.monitor.counts, h.monitor.since,
      h.monitor.settings⟩,
    ⟨?_, ?_, ?_, fun hr => ?_⟩, h.port.local hl, ⟨fun hc hp => ?_, fun hu => ?_, fun r' hr' hs => ?_⟩⟩
  · exact (heldAfter_le ..).trans (by omega)
  · exact (heldAfter_le ..).trans (by omega)
  · refine h.plan.of_match (SameDrive.of_map ⟨rfl, rfl, rfl, rfl, fun _ h => h, fun _ => .rfl, hl.heads_eq_nil_iff⟩
      (g := g) (fun r => ?_) hq) fun _ => restLevel_of_set_eq rfl rfl hl.cals
    rw [(hg r).1]; exact ⟨rfl, rfl, id⟩
  · rw [hq] at hr'
    obtain ⟨r, hr, rfl⟩ := List.mem_map.1 hr'
    exact h.cover.of_records rfl le_rfl ha ⟨r, hr, hout r, by rw [(hg r).1]⟩
  · have := congrArg List.length hheats
    rw [List.length_map, List.length_map] at this
    exact this.trans h.heat.heads
  · intro x hx
    have := List.mem_map_of_mem (f := fun h : Head => h.heat) hx
    rw [show (ch.passQuantum c now d).heads = ch.tallyQuantum from rfl, hheats] at this
    obtain ⟨y, hy, he⟩ := List.mem_map.1 this
    exact he ▸ h.heat.heat y hy
  · exact l0Lawful_of_cals hl.cals h.heat.l0
  · obtain ⟨h1, h2⟩ := h.heat.tally hr
    refine ⟨htick, ?_⟩
    show (ch.tallyQuantum.map (·.tally.total)).sum + (ch.nextTick - (now + 1)) ≤ ch.tickPeriod
    omega
  · rw [hactive]; exact h.held.held hc hp
  · rw [hactive]; exact h.held.upkeep hu
  · rw [hq] at hr'
    obtain ⟨r, hr, rfl⟩ := List.mem_map.1 hr'
    rw [hl.shadowHead, (hg r).1]
    exact h.held.shadow r hr (BurstRecord.served_congr (hout r) ▸ hs)

end

theorem State.passQuantum_ch (s : State) (h : s.phase = .running) (c : Chan) :
    s.passQuantum.ch c = (s.ch c).passQuantum c s.now (s.delay c) := by
  unfold State.passQuantum
  rw [if_pos ((State.running_iff s).2 h)]
  cases c <;> rfl

/-- In a reset a quantum only counts (R27). -/
theorem State.passQuantum_reset (s : State) (h : s.phase ≠ .running) : s.passQuantum = { s with now := s.now + 1 } := by
  unfold State.passQuantum
  exact if_neg fun hr => h ((State.running_iff s).1 hr)

/-- Between quanta nothing is asked of the instant but that falls, rises and ticks stand against it. -/
theorem State.Lawful.passQuantum {s : State} (hs : s.Lawful) (h : s.dueEvents = []) : s.passQuantum.Lawful := by
  obtain ⟨hl, hsum, hline, hch⟩ := State.lawful_iff.1 hs
  by_cases hr : s.phase = .running
  · have hdue : s.channelEvents .a = [] ∧ s.channelEvents .b = [] := by
      unfold State.dueEvents at h
      rw [hr] at h
      exact List.append_eq_nil_iff.1 h
    have hcopy : s.passQuantum.loaded = s.loaded ∧ s.passQuantum.slot = s.slot ∧ s.passQuantum.rdy = s.rdy ∧
        s.passQuantum.phase = s.phase ∧ s.passQuantum.reception = s.reception ∧ s.passQuantum.now = s.now + 1 ∧
        s.passQuantum.chA.res = s.chA.res ∧ s.passQuantum.chB.res = s.chB.res := by
      unfold State.passQuantum
      rw [if_pos ((State.running_iff s).2 hr)]
      exact ⟨rfl, rfl, rfl, rfl, rfl, rfl, rfl, rfl⟩
    obtain ⟨hloaded, hslot, hrdy, hphase, hrec, hnow, hA, hB⟩ := hcopy
    refine State.lawful_iff.2 ⟨hloaded ▸ hl, by rw [hA, hB, hloaded]; exact hsum, ⟨?_, ?_, ?_, ?_⟩, fun c => ?_⟩
    · rw [hrdy, hphase, hslot]; exact hline.rdy
    · exact fun hn => absurd (hphase.trans hr) hn
    · rw [hrec, hslot]; exact hline.reading
    · rw [hrec, hrdy]; exact hline.receiving
    · have hev : s.channelEvents c = [] := by cases c; exacts [hdue.1, hdue.2]
      simp only [State.channelEvents, List.append_eq_nil_iff, ite_eq_right_iff, List.cons_ne_nil, imp_false] at hev
      obtain ⟨⟨⟨⟨⟨⟨hgate, -⟩, -⟩, htick⟩, -⟩, -⟩, -⟩ := hev
      unfold State.ChannelLaws
      rw [s.passQuantum_ch hr, hnow, hloaded, hslot, hphase, State.delay, hloaded]
      exact (hch c).passQuantum (held_lt_of_gateEvents hgate) (Nat.lt_of_not_le htick)
  · rw [s.passQuantum_reset hr]
    refine State.lawful_iff.2 ⟨hl, hsum, ⟨hline.rdy, hline.reset, hline.reading, hline.receiving⟩, fun c => ?_⟩
    obtain ⟨h1, ⟨q1, q2, q3, q4, q5, q6, q7, q8⟩, h3, h4, h5, h6, h7, ⟨t1, t2, t3, -⟩, h9, h10⟩ := hch c
    have he : State.ch c { s with now := s.now + 1 } = s.ch c := by cases c <;> rfl
    unfold State.ChannelLaws
    rw [he]
    refine ⟨h1, ⟨q1, q2, fun r hr => Nat.le_succ_of_le (q3 r hr), fun r hr f hf => ?_, q5, q6, q7, q8⟩, h3, h4, h5,
      h6, h7,
      ⟨t1, t2, t3, fun hn => absurd hn hr⟩, h9, h10⟩
    obtain ⟨a, b, c⟩ := q4 r hr f hf
    exact ⟨a, Nat.le_succ_of_le b, fun hu => Nat.le_succ_of_le (c hu)⟩

/-! ## The step -/

/-- No law speaks of the waiting commands or of the choices of order. -/
theorem State.Lawful.queue_and_choices {s : State} (hs : s.Lawful) (n : Nat) (q : List Instr) :
    State.Lawful { s with orderCount := n, pending := q } := by
  obtain ⟨h1, h2, ⟨h3, h4, h5, h6⟩, h7⟩ := State.lawful_iff.1 hs
  exact State.lawful_iff.2 ⟨h1, h2, ⟨h3, h4, h5, h6⟩, h7⟩

theorem State.ownEvent_cases (s : State) :
    s.ownEvent = none ∧ s.dueEvents = [] ∨ ∃ i n, s.ownEvent = some (i, { s with orderCount := n }) := by
  unfold State.ownEvent
  split
  · next h => exact .inl ⟨rfl, h⟩
  · exact .inr ⟨_, s.orderCount, rfl⟩
  · exact .inr ⟨_, _, rfl⟩

/-- Settles O59: a command keeps the laws by its preparation and the Planner's act; a quantum with nothing due does too.
-/
theorem lawfulIsKept : Obligations.LawfulIsKept := by
  intro s t hs h
  unfold step at h
  split at h
  · exact (hs.queue_and_choices s.orderCount _).exec h
  · next hp =>
    rcases s.ownEvent_cases with ⟨he, hd⟩ | ⟨i, n, he⟩ <;> rw [he] at h
    · cases h; exact hs.passQuantum hd
    · exact (hs.queue_and_choices n s.pending).exec h

end Sys2Proof.Machine
end

section
/-! SUPPORT. Rises, falls and the disregard mark, command by command (R1, R2, R10, R14 to R17, R31). -/

namespace Sys2Proof.Machine

/-! ## Commands with a guard -/

section
variable {c : Chan} {s : State} {ch : Channel} {b : Bool} {f : Channel → Channel}

/-- A guarded command that is taken. -/
theorem next_of_taken (hs : s.ch c = ch) (hr : s.phase = .running) (hb : b = true) :
    (if s.running && b then Host.Outcome.next (s.upd c f) else .next s : Host.Outcome State Fault Refusal) =
      .next (s.upd c fun _ => f ch) := by
  rw [if_pos (by rw [hb, Bool.and_true]; exact (State.running_iff s).2 hr), s.upd_const, hs]

/-- A guarded command that is no event. -/
theorem next_of_not_taken (hb : b = false) :
    (if s.running && b then Host.Outcome.next (s.upd c f) else .next s : Host.Outcome State Fault Refusal) =
      .next s := by
  rw [hb, Bool.and_false]; exact if_neg Bool.false_ne_true

end

section
variable {c : Chan} {s : State} {ch : Channel} (hs : s.ch c = ch)
include hs

theorem exec_upstreamRise (hr : s.phase = .running) (hu : ch.uwg = false) (hh : 2 ≤ ch.uwgHeld) :
    exec (.upstreamRise c) s =
      .next (s.upd c fun _ => ch.takeRise s.now (s.delay c) (ch.holdsProtected c s.slot) (s.avail c)) := by
  rw [← hs]
  exact next_of_taken rfl hr (riseTaken_iff.2 ⟨hs ▸ hu, hs ▸ hh⟩)

theorem exec_upstreamFall (hr : s.phase = .running) (hu : ch.uwg = true) (hh : 2 ≤ ch.uwgHeld) :
    exec (.upstreamFall c) s = .next (s.upd c fun _ => ch.takeFall s.now) := by
  rw [← hs]
  exact next_of_taken rfl hr (fallTaken_iff.2 ⟨hs ▸ hu, hs ▸ hh⟩)

end

/-! ## The tests of a rise (R14) -/

namespace Channel

variable {held : Bool} {avail : Int} {ch : Channel} {now delay : Nat}

/-- A search that stops at its first hit. -/
theorem find?_cons_ite {p : RefuseReason → Bool} {a : RefuseReason} {l : List RefuseReason} :
    (a :: l).find? p = if p a = true then some a else l.find? p := by
  rw [List.find?_cons]
  cases p a <;> rfl

/-- The tests of R14 in their order are the model's: QUEUE_FULL before any record is made, and tests 2 to 8. -/
theorem firstTest_eq (held : Bool) (avail : Int) (ch : Channel) :
    ch.firstTest held avail = if 4 ≤ ch.queue.length then some .queueFull else ch.refusal held avail := by
  unfold Channel.firstTest acceptanceTests Channel.refusal Channel.riseCeiling ceilingFor
  simp only [find?_cons_ite, List.find?_nil, Channel.testApplies, decide_eq_true_eq, Bool.or_eq_true, beq_iff_eq,
    Bool.and_eq_true, Bool.not_eq_true', Bool.not_eq_true]

theorem takeRise_disregarded (h : ch.disregard = true) : ch.takeRise now delay held avail = ch.risen := by
  rcases ch.takeRise_cases now delay held avail with ⟨-, he⟩ | ⟨hd, -⟩
  · exact he
  · rw [h] at hd; cases hd

theorem takeRise_queueFull (h : ch.disregard = false) (hl : 4 ≤ ch.queue.length) :
    ch.takeRise now delay held avail = { ch.risen.postRefusal .queueFull with disregard := true } := by
  rcases ch.takeRise_cases now delay held avail with ⟨hd, -⟩ | ⟨-, ⟨-, he⟩ | ⟨hl', -⟩ | ⟨hl', -⟩⟩
  · rw [h] at hd; cases hd
  · exact he
  · omega
  · omega

theorem takeRise_refused {why : RefuseReason} (h : ch.disregard = false) (ht : ch.firstTest held avail = some why)
    (hw : why ≠ .queueFull) : ch.takeRise now delay held avail = ch.risen.refusedRise now why := by
  rw [firstTest_eq] at ht
  split at ht
  · cases ht; exact absurd rfl hw
  next hl =>
  have hrisen : ch.risen.refusal held avail = some why := ht
  rcases ch.takeRise_cases now delay held avail with ⟨hd, -⟩ | ⟨-, ⟨hl', -⟩ | ⟨-, why', hw', he⟩ | ⟨-, hw', -⟩⟩
  · rw [h] at hd; cases hd
  · exact absurd hl' hl
  · rw [hrisen] at hw'; cases hw'; exact he
  · rw [hrisen] at hw'; cases hw'

theorem takeRise_accepted (h : ch.disregard = false) (ht : ch.firstTest held avail = none) :
    ch.takeRise now delay held avail = (ch.risen.booked now delay avail).enterService now := by
  rw [firstTest_eq] at ht
  split at ht
  · cases ht
  next hl =>
  have hrisen : ch.risen.refusal held avail = none := ht
  rcases ch.takeRise_cases now delay held avail with ⟨hd, -⟩ | ⟨-, ⟨hl', -⟩ | ⟨-, why', hw', -⟩ | ⟨-, -, he⟩⟩
  · rw [h] at hd; cases hd
  · exact absurd hl' hl
  · rw [hrisen] at hw'; cases hw'
  · exact he

/-- The level WEDGE is entered with from REST (R41). -/
theorem wedgeLevel_rest (ch : Channel) :
    ch.wedgeLevel true = if ch.set.wedge = .bias ∧ ch.lvl = .bias then .bias else .off := by
  unfold Channel.wedgeLevel
  cases hw : ch.set.wedge <;> cases hl : ch.lvl <;> rfl

/-- The level WEDGE is entered with from a plan that serves a record (R41). -/
theorem wedgeLevel_serving (ch : Channel) :
    ch.wedgeLevel false = if ch.set.wedge = .bias then .bias else .off := by
  unfold Channel.wedgeLevel
  cases hw : ch.set.wedge <;> rfl

theorem wedgeLevel_ne_write (fromRest : Bool) (ch : Channel) : ch.wedgeLevel fromRest ≠ .write := by
  unfold Channel.wedgeLevel
  split
  · decide
  · split <;> decide

/-- A placement at a level other than WRITE lowers the write gate (R19, R20, R28). -/
theorem place_of_ne_write {p : PlanState} {l : Level} {trim : Int} (h : l ≠ .write) :
    ch.place now p l trim =
      { ch with
        plan := p, lvl := l, heldTrim := trim, dwg := false
        mon := ch.mon.follow ch.lvl l now ch.set.monPeriod } := by
  unfold Channel.place Channel.drive
  rw [beq_eq_false_iff_ne.2 h]

/-- Entry into WEDGE, at the level its setting gives (R40, R41). -/
theorem enterWedge_eq (fromRest : Bool) : ch.enterWedge now fromRest =
    { ch with
      plan := .wedge, lvl := ch.wedgeLevel fromRest, heldTrim := 0, dwg := false
      mon := ch.mon.follow ch.lvl (ch.wedgeLevel fromRest) now ch.set.monPeriod } :=
  place_of_ne_write (ch.wedgeLevel_ne_write fromRest)

/-- Entry into REST (R30). -/
theorem enterRest_eq : ch.enterRest now =
    { ch with
      plan := .rest, lvl := ch.restLevel, heldTrim := 0, dwg := false
      mon := ch.mon.follow ch.lvl ch.restLevel now ch.set.monPeriod } :=
  place_of_ne_write ch.restLevel_ne_write

/-- Entry into LEAD (R28). -/
theorem enterLead_eq : ch.enterLead now =
    { ch with
      plan := .lead, lvl := .bias, heldTrim := 0, dwg := false
      mon := ch.mon.follow ch.lvl .bias now ch.set.monPeriod } := place_of_ne_write (by decide)

theorem setNewestFall_append (now : Nat) (older : List BurstRecord) (r : BurstRecord) :
    setNewestFall now (older ++ [r]) = older ++ [r.setFall now] := by
  induction older with
  | nil => rfl
  | cons x older ih =>
    cases older with
    | nil => rfl
    | cons y older => exact congrArg (x :: ·) ih

end Channel

/-! ## Settled statements -/

/-- Settles O22: test 1 of a rise makes no record. -/
theorem riseRefusedQueueFull : Obligations.RiseRefusedQueueFull := by
  intro c s ch hs hr hu hh hd hl
  rw [exec_upstreamRise hs hr hu hh, Channel.takeRise_queueFull hd hl]
  rfl

/-- Settles O23: the first of tests 2 to 8 that applies is the model's refusal. -/
theorem riseRefusedByATest : Obligations.RiseRefusedByATest := by
  intro c s ch why hs hr hu hh hd ht hw
  have ht : ch.firstTest (ch.holdsProtected c s.slot) (s.avail c) = some why := ht
  rw [exec_upstreamRise hs hr hu hh, Channel.takeRise_refused hd ht hw]
  rfl

/-- Settles O24: no test refuses, so the record joins the queue and the Planner takes it up from REST. -/
theorem riseAccepted : Obligations.RiseAccepted := by
  intro c s ch hs hr hu hh hd ht e lead maxbase ceiling taken wedge
  have ht : ch.firstTest (ch.holdsProtected c s.slot) (s.avail c) = none := ht
  have htaken : ch.risen.booked s.now (s.delay c) (s.avail c) = taken := rfl
  rw [exec_upstreamRise hs hr hu hh, Channel.takeRise_accepted hd ht, htaken]
  congr 2
  funext _
  have hplan : taken.plan = ch.plan := rfl
  have hsg : taken.sg = ch.sg := rfl
  have hwedge : taken.wedgeLevel true = wedge := taken.wedgeLevel_rest
  unfold Channel.enterService
  rw [Channel.enterWedge_eq, Channel.enterLead_eq, hwedge, hplan, hsg]
  by_cases hp : ch.plan = .rest
  · rw [if_pos hp, if_neg (not_not.2 hp)]
    cases ch.sg <;> rfl
  · rw [if_neg hp, if_pos hp]

/-- Settles O25: under the mark a rise is not judged and a fall is no record's. -/
theorem disregardMark : Obligations.DisregardMark := by
  intro c s ch hs hr hd
  refine ⟨fun hu hh => ?_, fun hu hh => ?_, fun hu hh => ?_⟩
  · rw [exec_upstreamRise hs hr hu hh, Channel.takeRise_disregarded hd]
    rfl
  · rw [exec_upstreamFall hs hr hu hh]
    congr 2
    funext _
    unfold Channel.takeFall
    dsimp only
    rw [if_pos hd]
  · subst hs
    exact next_of_taken rfl hr (Channel.markWaits_iff.2 ⟨hd, hu, hh⟩)

/-- Settles O26: only the newest record's fall is outstanding. -/
theorem fallOfTheNewestRecord : Obligations.FallOfTheNewestRecord := by
  intro c s ch hs hr
  refine ⟨fun hu hh hd => ⟨fun older r hq hf => ?_, fun hq => ?_⟩, fun hh => ⟨?_, ?_⟩⟩
  · rw [exec_upstreamFall hs hr hu hh]
    congr 2
    funext _
    unfold Channel.takeFall
    dsimp only
    rw [if_neg (by rw [hd]; decide), hq, Channel.setNewestFall_append, BurstRecord.setFall, hf]
    rfl
  · rw [exec_upstreamFall hs hr hu hh]
    congr 2
    funext _
    unfold Channel.takeFall
    dsimp only
    rw [if_neg (by rw [hd]; decide), hq]
    rfl
  · refine next_of_not_taken (Bool.eq_false_iff.2 fun ht => ?_)
    have := (riseTaken_iff.1 ht).2
    rw [hs] at this
    omega
  · refine next_of_not_taken (Bool.eq_false_iff.2 fun ht => ?_)
    have := (fallTaken_iff.1 ht).2
    rw [hs] at this
    omega

end Sys2Proof.Machine
end

section
/-! SUPPORT. Leaving, truncation, and the entries into FAULT and HALTED, written out as whole next channels (R11, R21,
R23, R24, R45, R46, R49, R51, R93). -/

namespace Sys2Proof.Machine

namespace Channel

variable {now delay : Nat} {ch : Channel}

/-! ## Leaving and truncation (R11, R21, R93) -/

/-- The release of R93, written out. -/
theorem releaseIfQuiet_eq (ch : Channel) :
    ch.releaseIfQuiet = { ch with res := if ∃ x ∈ ch.queue, x.outcome = .accepted then ch.res else 0 } := by
  have hiff : ch.queue.any (·.isAccepted) = true ↔ ∃ x ∈ ch.queue, x.outcome = .accepted := by
    simp only [List.any_eq_true, BurstRecord.isAccepted_iff]
  unfold Channel.releaseIfQuiet
  by_cases h : ∃ x ∈ ch.queue, x.outcome = .accepted
  · rw [if_pos (hiff.2 h), if_pos h]
  · rw [if_neg (fun ha => h (hiff.1 ha)), if_neg h]

theorem leave_eq (r : BurstRecord) (ch : Channel) : ch.leave r =
    { ch with
      queue := ch.queue.filter (·.rise ≠ r.rise)
      res := if ∃ x ∈ ch.queue, x.rise ≠ r.rise ∧ x.outcome = .accepted then ch.res else 0 } := by
  have hq : ch.queue.filter (·.rise != r.rise) = ch.queue.filter (·.rise ≠ r.rise) :=
    List.filter_congr fun x _ => by simp [bne, beq_eq_decide]
  have hiff : (∃ x ∈ ch.queue.filter (·.rise ≠ r.rise), x.outcome = .accepted) ↔
      ∃ x ∈ ch.queue, x.rise ≠ r.rise ∧ x.outcome = .accepted := by
    simp only [List.mem_filter, decide_eq_true_eq, and_assoc]
  rw [Channel.leave, hq, releaseIfQuiet_eq]
  simp only [hiff]

theorem isWriting_iff {r : BurstRecord} :
    ch.isWriting r = true ↔ ch.plan = .write ∧ ch.front.map (·.rise) = some r.rise := by
  rw [Channel.isWriting, Bool.and_eq_true, beq_iff_eq, isThe_front]

theorem truncate_eq (why : CutReason) (r : BurstRecord) (ch : Channel) : ch.truncate now why r =
    { ch with
      queue := ch.queue.map fun x => if x.rise = r.rise then { x with outcome := .truncated why now } else x
      dwg := if ch.plan = .write ∧ ch.front.map (·.rise) = some r.rise then false else ch.dwg
      wu := true
      jnl := ch.jnl.post .truncated (headCode r.head) why.code
      res := if ∃ x ∈ ch.queue, x.rise ≠ r.rise ∧ x.outcome = .accepted then ch.res else 0 } := by
  have hdwg : (ch.dwg && !ch.isWriting r) =
      if ch.plan = .write ∧ ch.front.map (·.rise) = some r.rise then false else ch.dwg := by
    split
    · next h => rw [isWriting_iff.2 h]; exact Bool.and_false _
    · next h => rw [Bool.eq_false_iff.2 fun hw => h (isWriting_iff.1 hw)]; exact Bool.and_true _
  have hiff : (∃ x ∈ ch.queue.map fun x => if x.rise = r.rise then { x with outcome := .truncated why now } else x,
      x.outcome = .accepted) ↔ ∃ x ∈ ch.queue, x.rise ≠ r.rise ∧ x.outcome = .accepted := by
    constructor
    · rintro ⟨x, hx, ho⟩
      obtain ⟨y, hy, rfl⟩ := List.mem_map.1 hx
      split at ho
      · cases ho
      · next hne => exact ⟨y, hy, hne, ho⟩
    · rintro ⟨x, hx, hne, ho⟩
      exact ⟨x, List.mem_map.2 ⟨x, hx, if_neg hne⟩, ho⟩
  unfold Channel.truncate
  dsimp only
  rw [releaseIfQuiet_eq]
  simp only [Channel.post_fields, Channel.updRecord_fields, hiff, hdwg]

/-! ## The entries into FAULT and HALTED (R23, R49, R51) -/

/-- Posting one event for each of some records, oldest first. -/
theorem foldl_post (why : RefuseReason) (q : List BurstRecord) (ch : Channel) :
    q.foldl (fun x r => x.post .refused (headCode r.head) why.code) ch =
      { ch with jnl := q.foldl (fun j r => j.post .refused (headCode r.head) why.code) ch.jnl } := by
  induction q generalizing ch with
  | nil => rfl
  | cons r q ih => exact ih _

/-- The record being written: the front record of a plan in WRITE (R21, R23). -/
def written (ch : Channel) : Option BurstRecord := if ch.plan = .write then ch.front else none

/-- The truncation that opens such an entry, as far as the entry leaves it standing. -/
theorem truncateWriting_form (cut : CutReason) (ch : Channel) : ∃ dwg wu res, ch.truncateWriting now cut =
    { ch with
      queue := ch.queue.map fun r =>
        if ch.written.map (·.rise) = some r.rise then { r with outcome := .truncated cut now } else r
      dwg := dwg, wu := wu, res := res
      jnl := match ch.written with
        | some r => ch.jnl.post .truncated (headCode r.head) cut.code
        | none => ch.jnl } := by
  have hmap (o : Option BurstRecord) : ch.written = o → ch.truncateWriting now cut =
      match o with | some r => ch.truncate now cut r | none => ch := by
    rintro rfl
    unfold Channel.truncateWriting Channel.written
    split <;> rfl
  refine ⟨(ch.truncateWriting now cut).dwg, (ch.truncateWriting now cut).wu, (ch.truncateWriting now cut).res, ?_⟩
  cases hw : ch.written with
  | none =>
    rw [hmap _ hw]
    simp
  | some w =>
    rw [hmap _ hw]
    dsimp only
    rw [truncate_eq]
    simp only [Option.map_some, Option.some.injEq, eq_comm (a := w.rise)]

/-- An entry into FAULT or HALTED truncates the record being written and refuses the others (R23). -/
theorem shutDown_eq (p : PlanState) (cut : CutReason) (why : RefuseReason) (ch : Channel) :
    ch.shutDown now p cut why =
      { ch with
        plan := p, lvl := .off, heldTrim := 0, res := 0, wu := true, dwg := false
        mon := ch.mon.follow ch.lvl .off now ch.set.monPeriod
        queue := (ch.queue.map fun r =>
          if ch.written.map (·.rise) = some r.rise then { r with outcome := .truncated cut now }
          else if r.served then { r with outcome := .refused why } else r).filter fun r => !r.endTaken
        jnl := (ch.queue.filter fun r => r.served && ch.written.map (·.rise) != some r.rise).foldl
          (fun j r => j.post .refused (headCode r.head) why.code)
          (match ch.written with
            | some r => ch.jnl.post .truncated (headCode r.head) cut.code
            | none => ch.jnl) } := by
  obtain ⟨dwg, wu, res, ht⟩ := ch.truncateWriting_form (now := now) cut
  have hcutq (o : Option Nat) (x : BurstRecord) :
      (if o = some x.rise then { x with outcome := .truncated cut now } else x : BurstRecord).refuse why =
        if o = some x.rise then { x with outcome := .truncated cut now }
        else if x.served then { x with outcome := .refused why } else x := by
    split
    · rfl
    · rfl
  have hserved (o : Option Nat) (x : BurstRecord) :
      (if o = some x.rise then { x with outcome := .truncated cut now } else x : BurstRecord).served =
        (x.served && o != some x.rise) := by
    split
    · next h => rw [h, bne_self_eq_false, Bool.and_false]; rfl
    · next h => rw [bne_iff_ne.2 h, Bool.and_true]
  have hhead (o : Option Nat) (x : BurstRecord) :
      (if o = some x.rise then { x with outcome := .truncated cut now } else x : BurstRecord).head = x.head := by
    split <;> rfl
  unfold Channel.shutDown Channel.refuseAll
  dsimp only
  rw [foldl_post, ht, place_of_ne_write (by decide)]
  dsimp only
  congr 1
  · rw [List.map_map]
    exact congrArg _ (List.map_congr_left fun x _ => hcutq _ x)
  · rw [List.filter_map, List.foldl_map]
    simp only [hhead, Function.comp_def, hserved]

end Channel

/-- Settles O20: leaving and truncation are their filter, their map and the release of R93. -/
theorem leavingAndTruncation : Obligations.LeavingAndTruncation :=
  fun _ why r ch => ⟨Channel.leave_eq r ch, Channel.truncate_eq why r ch⟩

/-- Settles O21: the record being written is truncated, every other served one refused. -/
theorem entryIntoFaultAndHalted : Obligations.EntryIntoFaultAndHalted :=
  fun _ p cut why ch _ => Channel.shutDown_eq p cut why ch

end Sys2Proof.Machine
end

section
/-! SUPPORT. The stall cut of the newest record and the servo changes, written out (R24, R40 to R46). -/

namespace Sys2Proof.Machine

/-! ## The stall cut (R24, R45, R46) -/

theorem exec_stallCut {c : Chan} {s : State} {ch : Channel} {r : BurstRecord} (hs : s.ch c = ch)
    (hr : s.phase = .running)
    (hu : ch.uwg = true) (hst : ch.stalled = some r) :
    exec (.stallCut c) s = .next (s.upd c fun _ => ch.cut s.now (s.delay c) r) := by
  subst hs
  simp only [exec, execStallCut, hst]
  exact next_of_taken rfl hr hu

namespace Channel

variable {now delay : Nat} {ch : Channel} {older : List BurstRecord} {r : BurstRecord}

/-- A change of the newest record, when no older one shares its rise. -/
theorem map_newest (f : BurstRecord → BurstRecord) (ho : ∀ x ∈ older, x.rise ≠ r.rise) :
    (older ++ [r]).map (fun x => if x.rise = r.rise then f x else x) = older ++ [f r] := by
  have hold : older.map (fun x => if x.rise = r.rise then f x else x) = older :=
    (List.map_congr_left fun x hx => if_neg (ho x hx)).trans (List.map_id' older)
  rw [List.map_append, hold, List.map_singleton, if_pos rfl]

theorem cutMark_newest (hq : ch.queue = older ++ [r]) (ho : ∀ x ∈ older, x.rise ≠ r.rise) (hf : r.fall = none) :
    ch.cutMark now r =
      { ch with disregard := true, queue := older ++ [{ r with fall := some now, stall := none }] } := by
  have he : r.setFall now = { r with fall := some now, stall := none } := by rw [BurstRecord.setFall, hf]; rfl
  unfold Channel.cutMark Channel.updRecord
  rw [hq, map_newest (·.setFall now) ho, he]

/-- The newest record, cut while it is served; `quiet`: no older record is. -/
theorem truncate_newest (hq : ch.queue = older ++ [r]) (ho : ∀ x ∈ older, x.rise ≠ r.rise) (hf : r.fall = none)
    (why : CutReason) : ∃ dwg, (dwg = ch.dwg ∨ ch.plan = .write ∧ r.isThe ch.front = true) ∧
      (ch.cutMark now r).truncate now why r =
        { ch with
          disregard := true, wu := true, dwg := dwg
          queue := older ++ [{ r with fall := some now, stall := none, outcome := .truncated why now }]
          jnl := ch.jnl.post .truncated (headCode r.head) why.code
          res := if ∃ x ∈ older, x.outcome = .accepted then ch.res else 0 } := by
  have hres : (∃ x ∈ older ++ [({ r with fall := some now, stall := none } : BurstRecord)],
      x.rise ≠ r.rise ∧ x.outcome = .accepted) ↔ ∃ x ∈ older, x.outcome = .accepted := by
    constructor
    · rintro ⟨x, hx, hne, ha⟩
      rcases List.mem_append.1 hx with hx | hx
      · exact ⟨x, hx, ha⟩
      · rw [List.mem_singleton.1 hx] at hne; exact absurd rfl hne
    · rintro ⟨x, hx, ha⟩
      exact ⟨x, List.mem_append_left _ hx, ho x hx, ha⟩
  have hmap := map_newest (r := { r with fall := some now, stall := none })
    (fun x => { x with outcome := .truncated why now }) (older := older) ho
  refine ⟨((ch.cutMark now r).truncate now why r).dwg, ?_, ?_⟩
  · rw [truncate_eq]
    dsimp only
    split
    · next h =>
      refine .inr ⟨h.1, ?_⟩
      rw [← isThe_cutMark_front now, isThe_front]
      exact h.2
    · exact .inl rfl
  · rw [truncate_eq, cutMark_newest hq ho hf]
    dsimp only at hmap ⊢
    simp only [hmap, hres]

end Channel

/-- Settles O27: the cut record is the newest, so the plan serves it only when no older record is served. -/
theorem stallCutOfTheNewestRecord : Obligations.StallCutOfTheNewestRecord := by
  intro c s ch older r hs hr hu hq hst hf hold quiet cut truncated
  have ho : ∀ x ∈ older, x.rise ≠ r.rise := fun x hx => (hold x hx).2
  have hstalled : ch.stalled = some r := by
    have hn : older.find? (·.stall == some 0) = none :=
      List.find?_eq_none.2 fun x hx => by simpa using (hold x hx).1
    rw [Channel.stalled, hq, List.find?_append, hn]
    simp [hst]
  rw [exec_stallCut hs hr hu hstalled, Channel.cut_eq]
  obtain ⟨dwg, hdwg, htrunc⟩ := Channel.truncate_newest (now := s.now) hq ho hf .stall
  have hfront (hq' : quiet) (hsv : r.served = true) : ch.front = some r := by
    have hn : older.find? (·.served) = none := List.find?_eq_none.2 fun x hx => by simp [hq' x hx]
    rw [Channel.front, hq, List.find?_append, hn]
    simp [hsv]
  have hthe (hq' : quiet) (hsv : r.served = true) : r.isThe ch.front = true :=
    Channel.isThe_iff.2 ⟨r, hfront hq' hsv, rfl⟩
  refine ⟨fun hsv => ?_, fun hsv hnq => ?_, fun hsv hqt hp => ?_, fun hsv hqt hp => ?_⟩
  · rw [if_neg (by rw [hsv]; decide), Channel.cutMark_newest hq ho hf]
  · have hnot : ¬ r.isThe ch.front = true := by
      intro h
      obtain ⟨x, hx, he⟩ := Channel.isThe_iff.1 h
      have hsome : ∃ y ∈ older, y.served = true := by
        by_contra hn
        exact hnq fun y hy => Bool.eq_false_iff.2 fun hys => hn ⟨y, hy, hys⟩
      obtain ⟨y, hy, hys⟩ := hsome
      have hsome' : (older.find? (·.served)).isSome := List.find?_isSome.2 ⟨y, hy, hys⟩
      obtain ⟨z, hz⟩ := Option.isSome_iff_exists.1 hsome'
      rw [Channel.front, hq, List.find?_append, hz] at hx
      cases hx
      exact ho x (List.mem_of_find?_eq_some hz) he
    rw [if_pos hsv, if_neg hnot, htrunc, hdwg.resolve_right fun h => hnot h.2]
    rfl
  · rw [if_pos hsv, if_pos (hthe hqt hsv), htrunc]
    congr 2
    funext _
    unfold Channel.afterCut
    have hplan : ch.plan = .lead ∨ ch.plan = .warm ∨ ch.plan = .write := by simpa using hp
    rw [if_pos hplan]
    have hnone : ∀ x ∈ older ++ [{ r with fall := some s.now, stall := none, outcome := .truncated .stall s.now }],
        ¬ x.served = true := by
      intro x hx
      rcases List.mem_append.1 hx with hx | hx
      · rw [hqt x hx]; decide
      · rw [List.mem_singleton.1 hx]; exact Bool.false_ne_true
    unfold Channel.reaim
    rw [show Channel.front _ = none from List.find?_eq_none.2 hnone]
    dsimp only
    rw [Channel.enterRest_eq]
    rfl
  · rw [if_pos hsv, if_pos (hthe hqt hsv), htrunc]
    congr 2
    funext _
    unfold Channel.afterCut
    rw [if_neg (show ¬ (ch.plan = .lead ∨ ch.plan = .warm ∨ ch.plan = .write) by rw [hp]; decide),
      hdwg.resolve_right fun h => by rw [hp] at h; cases h.1]
    rfl

/-! ## Servo changes (R40 to R43) -/

section
variable {c : Chan} {s : State} {ch : Channel} (hs : s.ch c = ch)
include hs

theorem exec_servoRise (hr : s.phase = .running) (hg : ch.sg = false) (hh : 2 ≤ ch.sgHeld) :
    exec (.servoRise c) s = .next (s.upd c fun _ => Channel.servoUp s.now { ch with sg := true, sgHeld := 0 }) := by
  subst hs
  exact next_of_taken rfl hr (servoRiseTaken_iff.2 ⟨hg, hh⟩)

theorem exec_servoRise_early (hh : ch.sgHeld < 2) : exec (.servoRise c) s = .next s := by
  subst hs
  refine next_of_not_taken (Bool.eq_false_iff.2 fun ht => ?_)
  have := (servoRiseTaken_iff.1 ht).2
  omega

theorem exec_servoFall (hr : s.phase = .running) (hg : ch.sg = true) (hh : 2 ≤ ch.sgHeld) :
    exec (.servoFall c) s =
      .next (s.upd c fun _ => Channel.servoDown s.now (s.delay c) { ch with sg := false, sgHeld := 0 }) := by
  subst hs
  exact next_of_taken rfl hr (servoFallTaken_iff.2 ⟨hg, hh⟩)

theorem exec_servoFall_early (hh : ch.sgHeld < 2) : exec (.servoFall c) s = .next s := by
  subst hs
  refine next_of_not_taken (Bool.eq_false_iff.2 fun ht => ?_)
  have := (servoFallTaken_iff.1 ht).2
  omega

end

/-- Settles O28: the plan leaves its state for WEDGE at the level of its setting, or waits. -/
theorem servoRise : Obligations.ServoRise := by
  intro c s ch hs hr hg up wedged serving resting
  refine ⟨exec_servoRise_early hs, fun hh => ?_⟩
  have hwedge (x : Channel) (hset : x.set = ch.set) (hlvl : x.lvl = ch.lvl) (hmon : x.mon = ch.mon) :
      x.enterWedge s.now false = wedged serving x ∧ x.enterWedge s.now true = wedged resting x := by
    have hfollow (l : Level) : x.mon.follow x.lvl l s.now x.set.monPeriod =
      ch.mon.follow ch.lvl l s.now ch.set.monPeriod := by
      rw [hset, hlvl, hmon]
    have hserving : x.wedgeLevel false = serving := by rw [Channel.wedgeLevel_serving, hset]
    have hresting : x.wedgeLevel true = resting := by rw [Channel.wedgeLevel_rest, hset, hlvl]
    rw [Channel.enterWedge_eq, Channel.enterWedge_eq, hserving, hresting, hfollow, hfollow]
    exact ⟨rfl, rfl⟩
  rw [exec_servoRise hs hr hg hh]
  refine ⟨fun r hp hf => ?_, fun hp => ?_, fun r hp hf => ?_, fun hp => ?_, fun hp => ?_⟩
  · have hup : up.servoUp s.now = (up.truncateWriting s.now .servo).enterWedge s.now false := by
      unfold Channel.servoUp; rw [show up.plan = _ from hp]
    have ht : up.truncateWriting s.now .servo = up.truncate s.now .servo r := by
      unfold Channel.truncateWriting; rw [if_pos (show up.plan = _ from hp), show up.front = some r from hf]
    rw [show Channel.servoUp s.now _ = _ from hup, ht,
      (hwedge (up.truncate s.now .servo r) (by simp [up]) (by simp [up]) (by simp [up])).1]
  · have hup : up.servoUp s.now = up.enterWedge s.now false := by
      unfold Channel.servoUp; rcases hp with hp | hp <;> rw [show up.plan = _ from hp]
    rw [show Channel.servoUp s.now _ = _ from hup, (hwedge up rfl rfl rfl).1]
  · have hup : up.servoUp s.now = (up.leave r).enterWedge s.now false := by
      unfold Channel.servoUp; rw [show up.plan = _ from hp, show up.front = some r from hf]
    rw [show Channel.servoUp s.now _ = _ from hup, (hwedge (up.leave r) (by simp [up]) (by simp [up]) (by simp [up])).1]
  · have hup : up.servoUp s.now = up.enterWedge s.now true := by
      unfold Channel.servoUp; rw [show up.plan = _ from hp]
    rw [show Channel.servoUp s.now _ = _ from hup, (hwedge up rfl rfl rfl).2]
  · have hup : up.servoUp s.now = up := by
      simp only [List.mem_cons, List.not_mem_nil, or_false] at hp
      unfold Channel.servoUp; rcases hp with hp | hp | hp | hp <;> rw [show up.plan = _ from hp]
    rw [show Channel.servoUp s.now _ = _ from hup]

/-- The warm start of a record with a lead (R5). -/
theorem hasCome_warmStart {now delay l : Nat} {r : BurstRecord} (hl : r.lead = some l) :
    hasCome now (r.warmStart delay) = true ↔ r.rise + delay - l ≤ now := by
  rw [BurstRecord.warmStart, hl]
  exact decide_eq_true_iff

/-- Settles O29: a plan in WEDGE re-aims. -/
theorem servoFall : Obligations.ServoFall := by
  intro c s ch hs hr hg down placed
  refine ⟨exec_servoFall_early hs, fun hh => ?_⟩
  rw [exec_servoFall hs hr hg hh]
  have hstay (hp : ch.plan ≠ .wedge) : down.servoDown s.now (s.delay c) = down := if_neg hp
  have hre (hp : ch.plan = .wedge) : down.servoDown s.now (s.delay c) = down.reaim s.now (s.delay c) := if_pos hp
  have hlead (r : BurstRecord) (hf : ch.front = some r) (h : ¬ hasCome s.now (r.warmStart (s.delay c)) = true) :
      down.reaim s.now (s.delay c) = placed .lead .bias := by
    unfold Channel.reaim
    rw [show down.front = some r from hf]
    dsimp only
    rw [if_neg h, Channel.enterLead_eq]
  refine ⟨fun hp => ?_, fun hp hf => ?_, fun r l hp hf hl hw => ?_, fun r l hp hf hl hw => ?_⟩
  · rw [show Channel.servoDown s.now _ _ = _ from hstay hp]
  · rw [show Channel.servoDown s.now _ _ = _ from hre hp]
    unfold Channel.reaim
    rw [show down.front = none from hf]
    dsimp only
    rw [Channel.enterRest_eq]
    rfl
  · rw [show Channel.servoDown s.now _ _ = _ from hre hp, hlead r hf]
    rw [hasCome_warmStart hl]
    omega
  · rw [show Channel.servoDown s.now _ _ = _ from hre hp]
    unfold Channel.reaim
    rw [show down.front = some r from hf]
    dsimp only
    rw [if_pos ((hasCome_warmStart hl).2 hw),
      if_neg (show ¬ (down.plan = .warm ∨ down.plan = .write) by rw [show down.plan = _ from hp]; decide)]
    congr 3
    funext _
    unfold Channel.reportShortWarm
    by_cases hshort : r.rise + s.delay c - s.now < byteValue (ch.entry r.head).lmin
    · rw [if_pos hshort]
      exact congrArg (Channel.enterFresh s.now .warm r) (if_pos hshort)
    · rw [if_neg hshort]
      exact congrArg (Channel.enterFresh s.now .warm r) (if_neg hshort)

end Sys2Proof.Machine
end

section
/-! SUPPORT. The write start and the write end of a record, written out (R11, R19, R22, R35 to R37). -/

namespace Sys2Proof.Machine

section
variable {c : Chan} {s : State} {ch : Channel} {r : BurstRecord} (hs : s.ch c = ch) (hrec : ch.recordAt r.rise = some r)
include hs hrec

theorem exec_writeStart (hr : s.phase = .running) (ht : r.startTaken = false) (hd : r.rise + s.delay c ≤ s.now) :
    exec (.writeStart c r.rise) s = .next (s.upd c fun _ => ch.takeWriteStart s.now r) := by
  subst hs
  simp only [exec, execWriteStart, hrec]
  refine next_of_taken rfl hr ?_
  rw [BurstRecord.startDue, ht]
  exact decide_eq_true hd

theorem exec_writeStart_early (h : r.startTaken = true ∨ s.now < r.rise + s.delay c) :
    exec (.writeStart c r.rise) s = .next s := by
  subst hs
  simp only [exec, execWriteStart, hrec]
  refine next_of_not_taken ?_
  rw [BurstRecord.startDue, Bool.and_eq_false_iff, Bool.not_eq_false', decide_eq_false_iff_not]
  exact h.imp id Nat.not_le_of_lt

theorem exec_writeEnd {f : Nat} (hr : s.phase = .running) (hf : r.fall = some f) (ht : r.endTaken = false)
    (hd : f + s.delay c ≤ s.now) :
    exec (.writeEnd c r.rise) s = .next (s.upd c fun _ => ch.takeWriteEnd s.now (s.delay c) r) := by
  subst hs
  simp only [exec, execWriteEnd, hrec]
  refine next_of_taken rfl hr ?_
  rw [BurstRecord.endDue, ht, BurstRecord.writeEnd, hf]
  exact decide_eq_true hd

theorem exec_writeEnd_early {f : Nat} (hf : r.fall = some f) (h : r.endTaken = true ∨ s.now < f + s.delay c) :
    exec (.writeEnd c r.rise) s = .next s := by
  subst hs
  simp only [exec, execWriteEnd, hrec]
  refine next_of_not_taken ?_
  rw [BurstRecord.endDue, Bool.and_eq_false_iff, Bool.not_eq_false', BurstRecord.writeEnd, hf]
  exact h.imp id fun h => decide_eq_false (Nat.not_le_of_lt h)

end

namespace Channel

variable {now delay : Nat} {ch ch' : Channel} {r : BurstRecord}

/-- Records that keep their outcomes keep the next record. -/
theorem nextUp_map {g : BurstRecord → BurstRecord} (hg : ∀ x, (g x).outcome = x.outcome)
    (hq : ch'.queue = ch.queue.map g) : ch'.nextUp = ch.nextUp.map g := by
  have hp : ((fun x : BurstRecord => x.served) ∘ g) = fun x => x.served :=
    funext fun x => BurstRecord.served_congr (hg x)
  rw [Channel.nextUp, hq, List.filter_map, hp, ← List.map_drop, List.head?_map]
  rfl

/-- A mark on the record of a rise. -/
theorem front_updRecord {f : BurstRecord → BurstRecord} {rise : Nat} (hf : ∀ x, (f x).outcome = x.outcome) :
    (ch.updRecord rise f).front = ch.front.map fun x => if x.rise = rise then f x else x :=
  front_map (fun x => by split; exacts [hf x, rfl]) rfl

theorem nextUp_updRecord {f : BurstRecord → BurstRecord} {rise : Nat} (hf : ∀ x, (f x).outcome = x.outcome) :
    (ch.updRecord rise f).nextUp = ch.nextUp.map fun x => if x.rise = rise then f x else x :=
  nextUp_map (fun x => by split; exacts [hf x, rfl]) rfl

/-- The record of a rise, marked, is the front record if it was. -/
theorem isThe_front_updRecord {f : BurstRecord → BurstRecord} (hf : ∀ x, (f x).outcome = x.outcome)
    (hr : ∀ x, (f x).rise = x.rise) (h : ch.front = some r) : r.isThe (ch.updRecord r.rise f).front = true := by
  rw [front_updRecord hf, h]
  simp [BurstRecord.isThe, hr]

theorem isThe_nextUp_updRecord {f : BurstRecord → BurstRecord} (hf : ∀ x, (f x).outcome = x.outcome)
    (hr : ∀ x, (f x).rise = x.rise) (h : ch.nextUp = some r) : r.isThe (ch.updRecord r.rise f).nextUp = true := by
  rw [nextUp_updRecord hf, h]
  simp [BurstRecord.isThe, hr]

end Channel

/-- Settles O31: the write start marks its record and, with the servo gate low, enters WRITE for the front record or,
from FADE, for the next. -/
theorem writeStartOfARecord : Obligations.WriteStartOfARecord := by
  intro c s ch r hs hr hrec marked level
  refine ⟨exec_writeStart_early hs hrec, fun ht hd => ?_⟩
  rw [exec_writeStart hs hrec hr ht hd]
  have htake : ch.takeWriteStart s.now r =
      if r.served then (if ch.sg then marked.truncate s.now .servo r else marked.startWriting s.now r)
      else marked := rfl
  have hfront (h : ch.front = some r) : r.isThe marked.front = true :=
    Channel.isThe_front_updRecord (f := fun x => { x with startTaken := true }) (fun _ => rfl) (fun _ => rfl) h
  have hwrite : servedLevel .write r = level := rfl
  refine ⟨fun hsv => ?_, fun hsv hg => ?_, fun hsv hg hp hf => ?_, fun hsv hg hp hf => ?_,
    fun old hsv hg hp hf hn hne => ?_⟩
  · rw [htake, if_neg (by rw [hsv]; decide)]
  · rw [htake, if_pos hsv, if_pos hg]
  all_goals
    rw [htake, if_pos hsv, if_neg (by rw [hg]; decide)]
    unfold Channel.startWriting
  · rw [if_pos ⟨hp, hfront hf⟩, hwrite]
    unfold Channel.place Channel.drive
    have hgate : (level == .write) = r.isAccepted := by
      show ((if r.isAccepted then Level.write else .bias) == .write) = _
      cases r.isAccepted <;> rfl
    rw [hgate]
  · have hplan : marked.plan = .lead := hp
    rw [if_neg (by rw [hplan]; nofun), if_pos ⟨hp, hfront hf⟩]
  · have hplan : marked.plan = .fade := hp
    have hnext : r.isThe marked.nextUp = true :=
      Channel.isThe_nextUp_updRecord (f := fun x => { x with startTaken := true }) (fun _ => rfl) (fun _ => rfl) hn
    have hold : marked.front = some old := by
      refine (Channel.front_updRecord (f := fun x => { x with startTaken := true }) (fun _ => rfl)).trans ?_
      rw [hf, Option.map_some, if_neg hne]
    rw [if_neg (by rw [hplan]; nofun), if_neg (by rw [hplan]; nofun), if_pos ⟨hplan, hnext⟩, hold]

namespace Channel

variable {now delay : Nat} {ch : Channel} {r : BurstRecord}

/-- A mark on a record that leaves is of no matter. -/
theorem leave_updRecord {f : BurstRecord → BurstRecord} (hf : ∀ x, (f x).rise = x.rise) :
    (ch.updRecord r.rise f).leave r = ch.leave r := by
  have hq : (ch.queue.map fun x => if x.rise = r.rise then f x else x).filter (·.rise != r.rise) =
      ch.queue.filter (·.rise != r.rise) := by
    induction ch.queue with
    | nil => rfl
    | cons x q ih =>
      rw [List.map_cons]
      by_cases h : x.rise = r.rise
      · rw [if_pos h, List.filter_cons_of_neg (by simp [hf, h]), List.filter_cons_of_neg (by simp [h]), ih]
      · rw [if_neg h, List.filter_cons_of_pos (by simpa using h), List.filter_cons_of_pos (by simpa using h), ih]
  unfold Channel.leave Channel.updRecord
  dsimp only
  rw [hq]

/-- Two marks on one record are one. -/
theorem updRecord_updRecord {f g : BurstRecord → BurstRecord} {rise : Nat} (hf : ∀ x, (f x).rise = x.rise) :
    (ch.updRecord rise f).updRecord rise g = ch.updRecord rise (g ∘ f) := by
  unfold Channel.updRecord
  dsimp only
  rw [List.map_map]
  congr 1
  refine List.map_congr_left fun x _ => ?_
  by_cases h : x.rise = rise <;> simp [Function.comp, hf, h]

/-- The mark that a record's write end has been taken (R32; log 9). -/
def endMark (r : BurstRecord) : BurstRecord := { r with endTaken := true }

theorem takeWriteEnd_eq (r : BurstRecord) (ch : Channel) : ch.takeWriteEnd now delay r =
    if r.served then
      if (ch.updRecord r.rise endMark).isWriting r then (ch.updRecord r.rise endMark).finishWrite now delay r
      else ch.updRecord r.rise endMark
    else ch.leave r := by
  rw [← leave_updRecord (f := endMark) fun _ => rfl]
  rfl

/-- The record written is finished at its write end: what the plan does turns on the next record and the tail (R37). -/
theorem takeWriteEnd_writing (hs : r.served = true) (hp : ch.plan = .write) (hf : ch.front = some r) :
    ch.takeWriteEnd now delay r =
      if (ch.nextUp.any fun n => hasCome now (n.warmStart delay)) || byteValue (ch.entry r.head).tail == 0 then
        (ch.leave r).placeAfter now delay r
      else
        ((ch.updRecord r.rise endMark).updRecord r.rise
          fun x => { x with tailEnd := some (now + byteValue (ch.entry r.head).tail) }).enterFade now r := by
  have hw : (ch.updRecord r.rise endMark).isWriting r = true := by
    rw [Channel.isWriting, isThe_front_updRecord (f := endMark) (fun _ => rfl) (fun _ => rfl) hf, Bool.and_true]
    exact beq_iff_eq.2 hp
  have hn : ((ch.updRecord r.rise endMark).nextUp.any fun n => hasCome now (n.warmStart delay)) =
      ch.nextUp.any fun n => hasCome now (n.warmStart delay) := by
    rw [nextUp_updRecord (f := endMark) fun _ => rfl, Option.any_map]
    congr 1
    funext n
    split <;> rfl
  rw [takeWriteEnd_eq, if_pos hs, if_pos hw]
  unfold Channel.finishWrite
  rw [hn, leave_updRecord (f := endMark) fun _ => rfl]
  rfl

/-- The plan places itself anew: REST without a front record, WARM once its warm start has come, LEAD before (R38). -/
theorem placeAfter_eq (old : BurstRecord) (ch : Channel) :
    (ch.front = none → ch.placeAfter now delay old = ch.enterRest now) ∧
    (∀ n, ch.front = some n → hasCome now (n.warmStart delay) = true →
      ch.placeAfter now delay old = ch.handOver now .warm old n) ∧
    (∀ n, ch.front = some n → ¬ hasCome now (n.warmStart delay) = true →
      ch.placeAfter now delay old = ch.enterLead now) := by
  unfold Channel.placeAfter
  refine ⟨fun h => by rw [h], fun n h hc => ?_, fun n h hc => ?_⟩
  · rw [h]; exact if_pos hc
  · rw [h]; exact if_neg hc

end Channel

/-- Settles O32: the record leaves, or the plan fades it until its tail end. -/
theorem writeEndOfARecord : Obligations.WriteEndOfARecord := by
  intro c s ch r f hs hr hrec hf mark tail fading placed
  refine ⟨exec_writeEnd_early hs hrec hf, fun ht hd => ?_⟩
  rw [exec_writeEnd hs hrec hr hf ht hd]
  refine ⟨fun hsv => ?_, fun hsv hp => ?_, fun hsv hp hfront hnodup => ?_⟩
  · rw [Channel.takeWriteEnd_eq, if_neg (by rw [hsv]; decide)]
  · have hw : ¬ (ch.updRecord r.rise Channel.endMark).isWriting r = true := fun hw => hp (Channel.isWriting_iff.1 hw).1
    rw [Channel.takeWriteEnd_eq, if_pos hsv, if_neg hw]
    rfl
  obtain ⟨hplaceRest, hplaceWarm, hplaceLead⟩ :=
    Channel.placeAfter_eq (now := s.now) (delay := s.delay c) r (ch.leave r)
  have hnextFront : (ch.leave r).front = ch.nextUp := Channel.front_leave hnodup hfront
  rw [Channel.takeWriteEnd_writing hsv hp hfront]
  have hplaced {p : PlanState} {l : Level} (hl : l ≠ .write) :
    (ch.leave r).place s.now p l 0 = placed p l (ch.leave r) := by
    have hmon : (ch.leave r).mon.follow (ch.leave r).lvl l s.now (ch.leave r).set.monPeriod =
        ch.mon.follow ch.lvl l s.now ch.set.monPeriod := by simp
    rw [Channel.place_of_ne_write hl, hmon]
  have hrest : (ch.leave r).restLevel = ch.restLevel := Channel.restLevel_of_set_eq (by simp) (by simp) (by simp)
  refine ⟨fun n l hn hl hw => ?_, fun hn => ?_⟩
  · have hcome := (hasCome_warmStart hl).2 hw
    rw [hn, Option.any_some, hcome, Bool.true_or, if_pos rfl, hplaceWarm n (hnextFront.trans hn) hcome]
  have hlate (n : BurstRecord) (h : ch.nextUp = some n) : ¬ hasCome s.now (n.warmStart (s.delay c)) = true := by
    obtain ⟨l, hl, hlt⟩ := hn n h
    rw [hasCome_warmStart hl]
    omega
  have hany : (ch.nextUp.any fun n => hasCome s.now (n.warmStart (s.delay c))) = false := by
    rw [Bool.eq_false_iff]
    intro h
    obtain ⟨n, hnext, hcome⟩ := (Option.any_eq_true _ _).1 h
    exact hlate n hnext hcome
  rw [hany, Bool.false_or]
  refine ⟨fun htail => ?_, fun htail hnone => ?_, fun htail hsome => ?_⟩
  · have hfading : fading ≠ .write := by
      show (if r.isAccepted then Level.warm else .bias) ≠ .write
      split <;> decide
    have hmark : (ch.updRecord r.rise Channel.endMark).updRecord r.rise (fun x =>
      { x with tailEnd := some (s.now + tail) }) =
        mark (some (s.now + tail)) := Channel.updRecord_updRecord fun _ => rfl
    rw [if_neg (show ¬ (tail == 0) = true by simpa using htail), hmark]
    have hplace := Channel.place_of_ne_write (now := s.now) (p := .fade) (trim := ch.heldTrim)
      (ch := mark (some (s.now + tail))) hfading
    rw [show Channel.enterFade s.now r _ = _ from hplace]
  · rw [if_pos (show (tail == 0) = true by simpa using htail), hplaceRest (hnextFront.trans hnone), Channel.enterRest,
      hrest,
      hplaced ch.restLevel_ne_write]
  · obtain ⟨n, hnext⟩ := Option.ne_none_iff_exists'.1 hsome
    rw [if_pos (show (tail == 0) = true by simpa using htail), hplaceLead n (hnextFront.trans hnext) (hlate n hnext),
      Channel.enterLead, hplaced (by decide)]

end Sys2Proof.Machine
end

section
/-! SUPPORT. The command register (R26, R50, R54, R55, R127) and the resets (R27, R174), written out. -/

namespace Sys2Proof.Machine

/-! ## Completed writes of a register -/

theorem State.delivered_const (c : Chan) (f : Channel → Channel) (s : State) :
    s.delivered c f = s.delivered c fun _ => f (s.ch c) := by cases c <;> rfl

theorem exec_write {c : Chan} {s : State} {ch : Channel} {page : Option Nibble} {addr : Addr} {data : Byte}
    {k : WriteKind}
    (hs : s.ch c = ch) (hw : s.writeCompletes c page addr data) (hk : writeKind s.loaded.pageParam page addr data = k) :
    exec (k.command c) s = .next (s.delivered c fun _ => k.effect s.now addr data ch) := by
  rw [exec_writeCommand, State.completeWrite_of hw hk, State.delivered_const, hs]

/-- A write on the parameter page is decoded by its address and data (R115). -/
theorem writeKind_param {l : LoadedCopy} (hl : l.Law) {addr : Addr} {data : Byte} (h : addr ≠ 0x7D ∧ addr ≠ 0x7E) :
    writeKind l.pageParam (some l.pageParam) addr data = paramWriteKind addr data := by
  obtain ⟨h0, h1, -⟩ := hl.pages
  unfold writeKind
  rw [if_neg h.2, if_neg h.1, if_neg fun he => h0 (Option.some.inj he.1), if_neg fun he => h1 (Option.some.inj he.1),
    if_pos rfl]

theorem writeKind_command {l : LoadedCopy} (hl : l.Law) (data : Byte) :
    writeKind l.pageParam (some l.pageParam) 0x4B data =
      if data = 0xC1 then .faultClear else if data = 0xC2 then .channelRestart else .other := by
  rw [writeKind_param hl (by decide)]
  simp [paramWriteKind]

/-! ## The monitor at the register's commands -/

theorem Monitor.follow_armed (old new : Level) (now period : Nat) (m : Monitor) :
    (m.follow old new now period).armed = m.armed := by
  unfold Monitor.follow
  split
  · split
    · split <;> rfl
    · rfl
  · split <;> rfl

/-- Of a level that is not heated the monitor sees no more than OFF (R103). -/
theorem Monitor.follow_of_not_heated {old new : Level} (h : new.heated = false) (now period : Nat) (m : Monitor) :
    m.follow old new now period = m.follow old .off now period := by
  unfold Monitor.follow
  rw [h]
  rfl

theorem Channel.restLevel_not_heated (ch : Channel) : ch.restLevel.heated = false := by
  unfold Channel.restLevel
  split <;> rfl

namespace Channel

variable {now : Nat} {ch : Channel}

/-- A fault clear in FAULT (R54). -/
theorem clearFault_eq (hp : ch.plan = .fault) : ch.clearFault now =
    { ch with
      plan := .rest, lvl := ch.restLevel, heldTrim := 0, dwg := false, wu := false
      mon := { ch.mon.follow ch.lvl ch.restLevel now ch.set.monPeriod with low := 0, high := 0 }
      jnl := ch.jnl.post .faultCleared 0x0F 0 } := by
  unfold Channel.clearFault
  rw [if_pos hp, enterRest_eq]
  rfl

/-- The Journal after a truncation of the record being written, if there is one (R21). -/
def cutJournal (cut : CutReason) (ch : Channel) : Journal :=
  match ch.written with
  | some r => ch.jnl.post .truncated (headCode r.head) cut.code
  | none => ch.jnl

/-- A restarted channel, before a mode that is still HALT halts it again (R26, R55). -/
def restarted (now : Nat) (ch : Channel) : Channel :=
  { ch with
    queue := [], plan := .rest, lvl := ch.restLevel, heldTrim := 0, res := 0, dwg := false, wu := false
    disregard := ch.disregard || ch.uwg
    mon := { ch.mon.follow ch.lvl ch.restLevel now ch.set.monPeriod with low := 0, high := 0, armed := false }
    jnl := (ch.cutJournal .restart).post .restarted 0x0F 0 }

theorem restart_eq (hp : ch.plan ≠ .parked) : ch.restart now =
    if ch.set.mode = .halt then (ch.restarted now).enterHalted now else ch.restarted now := by
  obtain ⟨dwg, wu, res, ht⟩ := ch.truncateWriting_form (now := now) .restart
  unfold Channel.restart
  rw [if_neg hp, ht]
  dsimp only
  rw [enterRest_eq]
  rfl

/-- A channel restarted in mode HALT has no record left to mark (R50). -/
theorem restarted_halted (now : Nat) (ch : Channel) : (ch.restarted now).enterHalted now =
    { ch.restarted now with
      plan := .halted, lvl := .off, wu := true
      mon := { ch.mon.follow ch.lvl .off now ch.set.monPeriod with low := 0, high := 0, armed := false } } := by
  have hmon : (ch.restarted now).mon.follow (ch.restarted now).lvl .off now (ch.restarted now).set.monPeriod =
      { ch.mon.follow ch.lvl .off now ch.set.monPeriod with low := 0, high := 0, armed := false } := by
    have hcold : (ch.restarted now).lvl.heated = false := ch.restLevel_not_heated
    rw [← Monitor.follow_of_not_heated hcold, follow_self]
    show ({ ch.mon.follow ch.lvl ch.restLevel now ch.set.monPeriod with
      low := 0, high := 0, armed := false } : Monitor) = _
    rw [Monitor.follow_of_not_heated ch.restLevel_not_heated]
  unfold Channel.enterHalted
  rw [if_neg (by rintro (h | h) <;> cases h), shutDown_eq, hmon]
  rfl

end Channel

/-- Settles O44: the command register's two codes, and any other byte. -/
theorem commandRegister : Obligations.CommandRegister := by
  intro c s ch data hs hl hw zeroed written cutJnl restarted
  have hk := writeKind_command hl data
  refine ⟨fun hd hp => ?_, fun hd hp => ?_, fun hd hp => ?_, fun hd hp hm => ?_, fun hd hp hm => ?_, fun h1 h2 => ?_⟩
  · subst hd
    have harmed := ch.mon.follow_armed ch.lvl ch.restLevel s.now ch.set.monPeriod
    rw [show exec (.faultClear c) s = _ from exec_write hs hw hk]
    show Host.Outcome.next (s.delivered c fun _ => ch.clearFault s.now) = _
    rw [Channel.clearFault_eq hp]
    show _ = Host.Outcome.next (s.delivered c fun _ => { ch with
      plan := .rest, lvl := ch.restLevel, heldTrim := 0, dwg := false, wu := false
      mon := { ch.mon.follow ch.lvl ch.restLevel s.now ch.set.monPeriod with
        low := 0, high := 0, armed := ch.mon.armed }
      jnl := ch.jnl.post .faultCleared 0x0F 0 })
    rw [← harmed]
  · subst hd
    rw [show exec (.faultClear c) s = _ from exec_write hs hw hk]
    show Host.Outcome.next (s.delivered c fun _ => ch.clearFault s.now) = _
    unfold Channel.clearFault
    rw [if_neg hp]
  · subst hd
    rw [show exec (.channelRestart c) s = _ from exec_write hs hw hk]
    show Host.Outcome.next (s.delivered c fun _ => ch.restart s.now) = _
    unfold Channel.restart
    rw [if_pos hp]
  · subst hd
    rw [show exec (.channelRestart c) s = _ from exec_write hs hw hk]
    show Host.Outcome.next (s.delivered c fun _ => ch.restart s.now) = _
    rw [Channel.restart_eq hp, if_neg hm]
    rfl
  · subst hd
    rw [show exec (.channelRestart c) s = _ from exec_write hs hw hk]
    show Host.Outcome.next (s.delivered c fun _ => ch.restart s.now) = _
    rw [Channel.restart_eq hp, if_pos hm, Channel.restarted_halted]
    rfl
  · rw [if_neg h1, if_neg h2] at hk
    exact exec_write hs hw hk

/-- Settles O12: a reset puts every block into its reset state. -/
theorem resetsHoldEveryBlock : Obligations.ResetsHoldEveryBlock := by
  intro s
  refine ⟨rfl, fun hp => ?_, fun hp => ?_⟩
  · have hx : s.reception.cutByReset = if s.reception = .idle then .idle else .ignored := by
      cases s.reception <;> rfl
    simp only [exec, execRstnFall, hp, hx]
    rfl
  · simp only [exec, execRstnFall]
    split
    · next h => exact absurd h hp
    all_goals rfl

end Sys2Proof.Machine
end

section
/-! SUPPORT. One quantum written out (R1, R3, R4, R24, R62, R63), and the delay line through many (R4). -/

namespace Sys2Proof.Machine

/-! ## The idle step with nothing due -/

theorem step_idle {s : State} (hp : s.pending = []) (hd : s.dueEvents = []) : step s = .next s.passQuantum := by
  have hown : s.ownEvent = none := by unfold State.ownEvent; rw [hd]
  unfold step
  rw [hp]
  dsimp only
  rw [hown]

/-- One quantum at a level, count by count (R63). -/
theorem Tally.count_eq (l : Level) (t : Tally) : t.count l =
    ⟨t.bias + (if l = .bias then 1 else 0), t.warm + (if l = .warm then 1 else 0),
      t.write + (if l = .write then 1 else 0)⟩ := by
  cases l <;> rfl

/-- The tally takes the quantum for the energised head and no other (R62, R63). -/
theorem Channel.tallyQuantum_eq (ch : Channel) : ch.tallyQuantum = ch.heads.mapIdx fun n h =>
    if ch.energised = some n then { h with tally := h.tally.count ch.lvl } else h := by
  refine List.ext_getElem? fun n => ?_
  unfold Channel.tallyQuantum
  rw [List.getElem?_mapIdx]
  cases he : ch.energised with
  | none => cases ch.heads[n]? <;> rfl
  | some k =>
    dsimp only
    rw [List.getElem?_modify]
    by_cases hk : k = n
    · simp [hk]
    · simp [hk]

theorem Channel.passQuantum_eq (c : Chan) (now delay : Nat) (ch : Channel) : ch.passQuantum c now delay =
    { ch with
      uwgHeld := if Config.rawGate c now = ch.uwg then 0 else ch.uwgHeld + 1
      sgHeld := if Config.rawServo c now = ch.sg then 0 else ch.sgHeld + 1
      heads := ch.heads.mapIdx fun n h =>
        if ch.energised = some n then
          { h with tally :=
            ⟨h.tally.bias + (if ch.lvl = .bias then 1 else 0), h.tally.warm + (if ch.lvl = .warm then 1 else 0),
              h.tally.write + (if ch.lvl = .write then 1 else 0)⟩ }
        else h
      queue := ch.queue.map fun r => if ch.uwg then { r with stall := r.stall.map (· - 1) } else r
      delayLine := (Config.writeData c now :: ch.delayLine).take (delay + 2) } := by
  have hqueue : (if ch.uwg then ch.queue.map (·.stallQuantum) else ch.queue) =
      ch.queue.map fun r => if ch.uwg then { r with stall := r.stall.map (· - 1) } else r := by
    cases ch.uwg
    · exact (List.map_id' _).symm
    · rfl
  unfold Channel.passQuantum
  rw [Channel.tallyQuantum_eq, hqueue]
  simp only [Tally.count_eq]
  rfl

/-- Settles O2: with nothing due the idle step is one quantum. -/
theorem idleStepPassesOneQuantum : Obligations.IdleStepPassesOneQuantum := by
  intro s hp hd
  refine ⟨fun hr => ⟨s.passQuantum, step_idle hp hd, ?_, fun c => ?_⟩, fun hr => ?_⟩
  · unfold State.passQuantum
    rw [if_pos ((State.running_iff s).2 hr)]
  · rw [s.passQuantum_ch hr, Channel.passQuantum_eq]
  · rw [step_idle hp hd, s.passQuantum_reset hr]

/-! ## The delay line (R4) -/

theorem State.passQuantum_running {s : State} (hr : s.phase = .running) :
    s.passQuantum.phase = .running ∧ s.passQuantum.now = s.now + 1 ∧ s.passQuantum.loaded = s.loaded := by
  unfold State.passQuantum
  rw [if_pos ((State.running_iff s).2 hr)]
  exact ⟨hr, rfl, rfl⟩

theorem State.iterate_passQuantum_running {s : State} (hr : s.phase = .running) (k : Nat) :
    (State.passQuantum^[k] s).phase = .running ∧ (State.passQuantum^[k] s).now = s.now + k ∧
      (State.passQuantum^[k] s).loaded = s.loaded := by
  induction k with
  | zero => exact ⟨hr, rfl, rfl⟩
  | succ k ih =>
    obtain ⟨hr', hn, hl⟩ := ih
    obtain ⟨hr'', hn', hl'⟩ := State.passQuantum_running hr'
    rw [Function.iterate_succ_apply']
    exact ⟨hr'', by omega, hl'.trans hl⟩

/-- After `k` quanta the line holds their data, the newest first, and behind them what it held (R4). -/
theorem State.delayLine_iterate {s : State} (hr : s.phase = .running) (c : Chan) (k i : Nat) (hi : i < s.delay c + 2) :
    ((State.passQuantum^[k] s).ch c).delayLine[i]? =
      if i < k then some (Config.writeData c (s.now + k - (i + 1))) else (s.ch c).delayLine[i - k]? := by
  induction k generalizing i with
  | zero => rfl
  | succ k ih =>
    obtain ⟨hr', hn, hl⟩ := s.iterate_passQuantum_running hr k
    have hdelay : (State.passQuantum^[k] s).delay c = s.delay c := by rw [State.delay, hl]; rfl
    have hline : ((State.passQuantum^[k + 1] s).ch c).delayLine =
        (Config.writeData c (s.now + k) :: ((State.passQuantum^[k] s).ch c).delayLine).take (s.delay c + 2) := by
      rw [Function.iterate_succ_apply', State.passQuantum_ch _ hr', ← hn, ← hdelay]
      rfl
    rw [hline, List.getElem?_take_of_lt hi]
    cases i with
    | zero => rfl
    | succ i =>
      rw [List.getElem?_cons_succ, ih i (by omega)]
      by_cases hik : i < k
      · rw [if_pos hik, if_pos (by omega)]
        congr 2
        omega
      · rw [if_neg hik, if_neg (by omega), Nat.succ_sub_succ]

/-- Settles O11: the last place of the line holds the data of D + 2 quanta before. -/
theorem delayLineDelaysByDPlusTwo : Obligations.DelayLineDelaysByDPlusTwo := by
  intro c s k hr
  rw [Channel.dwd, s.delayLine_iterate hr c k (s.delay c + 1) (by omega)]
  by_cases hk : s.delay c + 2 ≤ k
  · rw [if_pos hk, if_pos (by omega)]
    rfl
  · rw [if_neg hk, if_neg (by omega)]

end Sys2Proof.Machine
end

section
/-! SUPPORT. What is due of a channel's own events, source by source (R1 to R3, R5, R24, R60, R104, R136, R137). -/

namespace Sys2Proof.Machine

/-! ## The frame completions of a port (R136) -/

theorem State.portEvents_of_writeCompletes {c : Chan} {s : State} {page : Option Nibble} {addr : Addr} {data : Byte}
    (h : s.writeCompletes c page addr data) :
    s.portEvents c = [(writeKind s.loaded.pageParam page addr data).command c] := by
  unfold State.portEvents
  rw [State.relayedDue_of_writeCompletes h]

theorem State.portEvents_of_readCompletes {c : Chan} {s : State} {addr : Addr} {hold : ReadHold}
    (h : s.readCompletes c addr hold) :
    s.portEvents c = [readCommand c (Config.returnedByte c s.now) s.loaded (s.ch c).port.page addr hold] := by
  obtain ⟨hr, hs, began, page, hj, ht⟩ := h
  unfold State.portEvents
  rw [State.relayedDue_eq_some.2 ⟨hr, hs, began, hj, ht⟩]

/-- A port carries one frame: while it is an inserted one no relayed frame completes (R136). -/
theorem State.relayedDue_eq_none_of_insertedCompletes {c : Chan} {s : State} {o : SeqOwner} {f : InsertedFrame}
    {rest : List InsertedFrame} (h : s.insertedCompletes c o f rest) : s.relayedDue c = none := by
  obtain ⟨-, began, hj, -⟩ := h
  refine Option.eq_none_iff_forall_ne_some.2 fun due hdue => ?_
  obtain ⟨-, -, began', hj', -⟩ := State.relayedDue_eq_some.1 hdue
  rw [hj] at hj'
  cases hj'

theorem State.portEvents_of_insertedCompletes {c : Chan} {s : State} {o : SeqOwner} {f : InsertedFrame}
    {rest : List InsertedFrame} (h : s.insertedCompletes c o f rest) :
    s.portEvents c = insertedCommand c (Config.returnedByte c s.now) o f := by
  unfold State.portEvents
  rw [State.relayedDue_eq_none_of_insertedCompletes h, State.insertedDue_of_insertedCompletes h]

/-- A frame completion is that of a relayed write, of a relayed read or of a frame of an inserted sequence. -/
theorem State.portEvents_cases {c : Chan} {s : State} {i : Instr} (h : i ∈ s.portEvents c) :
    (∃ page addr data, s.writeCompletes c page addr data) ∨ (∃ addr hold, s.readCompletes c addr hold) ∨
    ∃ o f rest, s.insertedCompletes c o f rest := by
  unfold State.portEvents at h
  split at h
  next hd => exact .inl ⟨_, _, _, State.relayedDue_eq_some.1 hd⟩
  next page addr hold hd =>
    obtain ⟨hr, hs, began, hj, ht⟩ := State.relayedDue_eq_some.1 hd
    exact .inr (.inl ⟨addr, hold, hr, hs, began, page, hj, ht⟩)
  next =>
    split at h
    next hd => exact .inr (.inr ⟨_, _, _, State.insertedDue_eq_some.1 hd⟩)
    next => cases h
    next => cases h

/-! ## The sources of a channel's own events -/

/-- Where an own event of a channel comes from. -/
inductive EventSource
  | gate | cut | expiry | tick | sample | write | read | inserted | grant | elsewhere

/-- The source of the events of a row. -/
def eventSource : Instr → EventSource
  | .upstreamRise _ | .upstreamFall _ | .servoRise _ | .servoFall _ | .rawGateReturnLow _ => .gate
  | .stallCut _ => .cut
  | .warmStart _ _ | .writeStart _ _ | .writeEnd _ _ | .tailEnd _ _ => .expiry
  | .heatTick _ => .tick
  | .monitorSample _ _ => .sample
  | .faultClear _ | .channelRestart _ | .modeWriteHalt _ | .modeWriteNormal _ | .modeWriteShadow _ | .injectWrite _
  | .bandSelectWrite _ | .headFieldWrite _ | .lowByteWrite _ | .highByteWrite _ | .heatSettingWrite _
  | .monitorRegisterWrite _ | .stallLimitWrite _ | .wedgeLevelWrite _ | .pageSelectWrite _ | .headSelectWrite _
  | .levelRegisterWrite _ | .preamplifierReset _ | .relayedWrite _ => .write
  | .temperatureRead _ _ | .journalSlotRead _ _ | .summaryRead _ _ | .relayedRead _ _ => .read
  | .learningReadComplete _ _ | .insertedPageSelectComplete _ | .upkeepWriteComplete _ | .journalWriteComplete _ =>
    .inserted
  | .relayedFrameGrant _ | .learningSequenceGrant _ | .upkeepSequenceGrant _ | .recordSequenceGrant _
  | .summarySequenceGrant _ => .grant
  | .powerOn | .optionLoadComplete _ _ | .rstnFall | .rstnRise _ _ | .upstreamFrameStart _ _ | .upstreamWriteEnd _
  | .upstreamReadAddress _ | .earlyRelease | .doubleSelect | .upstreamReadEnd => .elsewhere

/-- The event `i` is due from a source of the channel. -/
def State.DueFrom (c : Chan) (s : State) (i : Instr) : EventSource → Prop
  | .gate => i ∈ s.gateEvents c
  | .cut => ((s.ch c).uwg = true ∧ (s.ch c).stalled.isSome = true) ∧ i = .stallCut c
  | .expiry => ∃ r ∈ (s.ch c).queue, i ∈ r.dueEvents c s.now (s.delay c) (s.ch c)
  | .tick => (s.ch c).nextTick ≤ s.now ∧ i = .heatTick c
  | .sample => hasCome s.now (s.ch c).mon.due = true ∧ i = .monitorSample c (Config.monLines c s.now)
  | .write => ∃ page addr data, s.writeCompletes c page addr data ∧
      i = (writeKind s.loaded.pageParam page addr data).command c
  | .read => ∃ addr hold, s.readCompletes c addr hold ∧
      i = readCommand c (Config.returnedByte c s.now) s.loaded (s.ch c).port.page addr hold
  | .inserted => ∃ o f rest, s.insertedCompletes c o f rest ∧
      i ∈ insertedCommand c (Config.returnedByte c s.now) o f
  | .grant => ∃ w, s.choice c = some w ∧ i = w.command c
  | .elsewhere => False

theorem State.mem_portEvents {c : Chan} {s : State} {i : Instr} :
    i ∈ s.portEvents c ↔ s.DueFrom c i .write ∨ s.DueFrom c i .read ∨ s.DueFrom c i .inserted := by
  constructor
  · intro h
    obtain ⟨page, addr, data, hd⟩ | ⟨addr, hold, hd⟩ | ⟨o, f, rest, hd⟩ := State.portEvents_cases h
    · rw [State.portEvents_of_writeCompletes hd, List.mem_singleton] at h
      exact .inl ⟨page, addr, data, hd, h⟩
    · rw [State.portEvents_of_readCompletes hd, List.mem_singleton] at h
      exact .inr (.inl ⟨addr, hold, hd, h⟩)
    · rw [State.portEvents_of_insertedCompletes hd] at h
      exact .inr (.inr ⟨o, f, rest, hd, h⟩)
  · rintro (⟨page, addr, data, hd, hi⟩ | ⟨addr, hold, hd, hi⟩ | ⟨o, f, rest, hd, hi⟩)
    · rw [State.portEvents_of_writeCompletes hd, hi]; exact .head _
    · rw [State.portEvents_of_readCompletes hd, hi]; exact .head _
    · rwa [State.portEvents_of_insertedCompletes hd]

theorem State.mem_grantEvents {c : Chan} {s : State} {i : Instr} : i ∈ s.grantEvents c ↔ s.DueFrom c i .grant := by
  unfold State.grantEvents State.DueFrom
  cases s.choice c with
  | none => simp
  | some w => simp

theorem State.mem_channelEvents_iff_exists {c : Chan} {s : State} {i : Instr} :
    i ∈ s.channelEvents c ↔ ∃ g, s.DueFrom c i g := by
  have hmem : i ∈ s.channelEvents c ↔ s.DueFrom c i .gate ∨ s.DueFrom c i .cut ∨ s.DueFrom c i .expiry ∨
      s.DueFrom c i .tick ∨ s.DueFrom c i .sample ∨ (s.DueFrom c i .write ∨ s.DueFrom c i .read ∨
      s.DueFrom c i .inserted) ∨ s.DueFrom c i .grant := by
    rw [← State.mem_portEvents, ← State.mem_grantEvents]
    simp only [State.channelEvents, State.DueFrom, List.mem_append, List.mem_ite_nil_right, List.mem_singleton,
      List.mem_flatMap, Bool.and_eq_true, or_assoc]
  rw [hmem]
  constructor
  · rintro (h | h | h | h | h | (h | h | h) | h) <;> exact ⟨_, h⟩
  · rintro ⟨g, h⟩
    cases g with
    | elsewhere => exact h.elim
    | _ => simp only [h, true_or, or_true]

/-! ## A row has one source and one channel -/

theorem WriteKind.command_source (c : Chan) (k : WriteKind) :
    eventSource (k.command c) = .write ∧ (k.command c).channel = some c := by
  cases k <;> exact ⟨rfl, rfl⟩

theorem WriteKind.command_injective (c : Chan) : Function.Injective (WriteKind.command c) := by
  intro j k h
  cases j <;> cases k <;> cases h <;> rfl

theorem readCommand_mem (c : Chan) (byte : Byte) (l : LoadedCopy) (page : Option Nibble) (addr : Addr)
    (hold : ReadHold) : readCommand c byte l page addr hold ∈
      [.temperatureRead c byte, .journalSlotRead c byte, .summaryRead c byte, .relayedRead c byte] := by
  unfold readCommand
  split
  · simp
  split
  · simp
  split <;> simp

theorem source_of_mem_reads {c : Chan} {byte : Byte} {i : Instr}
    (h : i ∈ [.temperatureRead c byte, .journalSlotRead c byte, .summaryRead c byte, .relayedRead c byte]) :
    eventSource i = .read ∧ i.channel = some c := by
  simp only [List.mem_cons, List.not_mem_nil, or_false] at h
  obtain rfl | rfl | rfl | rfl := h <;> exact ⟨rfl, rfl⟩

theorem source_of_mem_insertedCommand {c : Chan} {byte : Byte} {o : SeqOwner} {f : InsertedFrame} {i : Instr}
    (h : i ∈ insertedCommand c byte o f) : eventSource i = .inserted ∧ i.channel = some c := by
  cases f <;> cases o <;> simp only [insertedCommand, List.mem_singleton, List.not_mem_nil] at h <;> subst h <;>
    exact ⟨rfl, rfl⟩

theorem Work.command_source (c : Chan) (w : Work) :
    eventSource (w.command c) = .grant ∧ (w.command c).channel = some c := by
  cases w <;> exact ⟨rfl, rfl⟩

theorem Work.command_injective (c : Chan) : Function.Injective (Work.command c) := by
  intro j k h
  cases j <;> cases k <;> cases h <;> rfl

theorem State.DueFrom.source_channel {c : Chan} {s : State} {i : Instr} {g : EventSource} (h : s.DueFrom c i g) :
    eventSource i = g ∧ i.channel = some c := by
  cases g with
  | gate =>
    simp only [State.DueFrom, State.gateEvents, List.mem_append, List.mem_ite_nil_right, List.mem_singleton] at h
    obtain ((((⟨-, rfl⟩ | ⟨-, rfl⟩) | ⟨-, rfl⟩) | ⟨-, rfl⟩) | ⟨-, rfl⟩) := h <;> exact ⟨rfl, rfl⟩
  | expiry =>
    obtain ⟨r, -, h⟩ := h
    simp only [BurstRecord.dueEvents, List.mem_append, List.mem_ite_nil_right, List.mem_singleton] at h
    obtain (((⟨-, rfl⟩ | ⟨-, rfl⟩) | ⟨-, rfl⟩) | ⟨-, rfl⟩) := h <;> exact ⟨rfl, rfl⟩
  | cut | tick | sample => obtain ⟨-, rfl⟩ := h; exact ⟨rfl, rfl⟩
  | write => obtain ⟨_, _, _, -, rfl⟩ := h; exact WriteKind.command_source c _
  | read => obtain ⟨_, _, -, rfl⟩ := h; exact source_of_mem_reads (readCommand_mem ..)
  | inserted => obtain ⟨_, _, _, -, h⟩ := h; exact source_of_mem_insertedCommand h
  | grant => obtain ⟨_, -, rfl⟩ := h; exact Work.command_source c _
  | elsewhere => exact h.elim

/-- An event of a row is due when it is due from the row's source on the channel the row names. -/
theorem State.mem_dueEvents {c : Chan} {s : State} {i : Instr} (hr : s.phase = .running) (hc : i.channel = some c) :
    i ∈ s.dueEvents ↔ s.DueFrom c i (eventSource i) := by
  have hdue : s.dueEvents = s.channelEvents .a ++ s.channelEvents .b := by unfold State.dueEvents; rw [hr]
  rw [hdue, List.mem_append, State.mem_channelEvents_iff_exists, State.mem_channelEvents_iff_exists]
  constructor
  · rintro (⟨g, h⟩ | ⟨g, h⟩) <;>
    · obtain ⟨hg, hch⟩ := h.source_channel
      obtain rfl := Option.some.inj (hch.symm.trans hc)
      rwa [hg]
  · intro h
    cases c
    · exact .inl ⟨_, h⟩
    · exact .inr ⟨_, h⟩

/-! ## What a source holds -/

theorem hasCome_iff {now : Nat} {o : Option Nat} : hasCome now o = true ↔ ∃ t, o = some t ∧ t ≤ now := by
  cases o <;> simp [hasCome]

theorem Channel.stalled_isSome_iff {ch : Channel} :
    ch.stalled.isSome = true ↔ ∃ r ∈ ch.queue, r.stall = some 0 := by
  simp [Channel.stalled]

theorem BurstRecord.warmDue_iff {now delay : Nat} {r : BurstRecord} :
    r.warmDue now delay = true ↔ r.warmTaken = false ∧ ∃ l, r.lead = some l ∧ r.rise + delay - l ≤ now := by
  simp [BurstRecord.warmDue, BurstRecord.warmStart, BurstRecord.writeStart, hasCome_iff]

theorem BurstRecord.startDue_iff {now delay : Nat} {r : BurstRecord} :
    r.startDue now delay = true ↔ r.startTaken = false ∧ r.rise + delay ≤ now := by
  rw [BurstRecord.startDue, Bool.and_eq_true, Bool.not_eq_true', decide_eq_true_iff, BurstRecord.writeStart]

theorem BurstRecord.endDue_iff {now delay : Nat} {r : BurstRecord} :
    r.endDue now delay = true ↔ r.endTaken = false ∧ ∃ f, r.fall = some f ∧ f + delay ≤ now := by
  simp [BurstRecord.endDue, BurstRecord.writeEnd, hasCome_iff]

theorem Channel.tailDue_iff {now : Nat} {r : BurstRecord} {ch : Channel} :
    ch.tailDue now r = true ↔ ch.plan = .fade ∧ ch.front.map (·.rise) = some r.rise ∧
      ∃ t, r.tailEnd = some t ∧ t ≤ now := by
  rw [Channel.tailDue, Bool.and_eq_true, Bool.and_eq_true, beq_iff_eq, Channel.isThe_front, hasCome_iff, and_assoc]

section
variable {c : Chan} {now delay rise : Nat} {ch : Channel} {r : BurstRecord}

theorem BurstRecord.warmStart_mem_dueEvents : Instr.warmStart c rise ∈ r.dueEvents c now delay ch ↔
    r.rise = rise ∧ r.warmTaken = false ∧ ∃ l, r.lead = some l ∧ rise + delay - l ≤ now := by
  have hmem : Instr.warmStart c rise ∈ r.dueEvents c now delay ch ↔ r.rise = rise ∧ r.warmDue now delay = true := by
    simp [BurstRecord.dueEvents, and_comm, eq_comm (a := rise)]
  rw [hmem, BurstRecord.warmDue_iff]
  exact and_congr_right fun h => by rw [h]

theorem BurstRecord.writeStart_mem_dueEvents : Instr.writeStart c rise ∈ r.dueEvents c now delay ch ↔
    r.rise = rise ∧ r.startTaken = false ∧ rise + delay ≤ now := by
  have hmem : Instr.writeStart c rise ∈ r.dueEvents c now delay ch ↔ r.rise = rise ∧ r.startDue now delay = true := by
    simp [BurstRecord.dueEvents, and_comm, eq_comm (a := rise)]
  rw [hmem, BurstRecord.startDue_iff]
  exact and_congr_right fun h => by rw [h]

theorem BurstRecord.writeEnd_mem_dueEvents : Instr.writeEnd c rise ∈ r.dueEvents c now delay ch ↔
    r.rise = rise ∧ r.endTaken = false ∧ ∃ f, r.fall = some f ∧ f + delay ≤ now := by
  rw [← BurstRecord.endDue_iff]
  simp [BurstRecord.dueEvents, and_comm, eq_comm (a := rise)]

theorem BurstRecord.tailEnd_mem_dueEvents : Instr.tailEnd c rise ∈ r.dueEvents c now delay ch ↔
    r.rise = rise ∧ ch.plan = .fade ∧ ch.front.map (·.rise) = some rise ∧ ∃ t, r.tailEnd = some t ∧ t ≤ now := by
  have hmem : Instr.tailEnd c rise ∈ r.dueEvents c now delay ch ↔ r.rise = rise ∧ ch.tailDue now r = true := by
    simp [BurstRecord.dueEvents, and_comm, eq_comm (a := rise)]
  rw [hmem, Channel.tailDue_iff]
  exact and_congr_right fun h => by rw [h]

end

theorem mem_insertedCommand_learningRead {c : Chan} {byte b : Byte} {o : SeqOwner} {f : InsertedFrame} :
    Instr.learningReadComplete c byte ∈ insertedCommand c b o f ↔
      byte = b ∧ o = .learning ∧ (f = .readPage ∨ f = .readHead) := by
  cases f <;> cases o <;> simp [insertedCommand]

theorem mem_insertedCommand_pageSelect {c : Chan} {b : Byte} {o : SeqOwner} {f : InsertedFrame} :
    Instr.insertedPageSelectComplete c ∈ insertedCommand c b o f ↔ ∃ p, f = .selectPage p := by
  cases f <;> cases o <;> simp [insertedCommand]

theorem mem_insertedCommand_upkeep {c : Chan} {b : Byte} {o : SeqOwner} {f : InsertedFrame} :
    Instr.upkeepWriteComplete c ∈ insertedCommand c b o f ↔ o = .upkeep ∧ ∃ addr data, f = .content addr data := by
  cases f <;> cases o <;> simp [insertedCommand]

theorem mem_insertedCommand_journal {c : Chan} {b : Byte} {o : SeqOwner} {f : InsertedFrame} :
    Instr.journalWriteComplete c ∈ insertedCommand c b o f ↔
      (∃ addr data, f = .content addr data) ∧ o ≠ .upkeep ∧ o ≠ .learning := by
  cases f <;> cases o <;> simp [insertedCommand]

section
variable {c : Chan} {s : State} (hr : s.phase = .running)
include hr

theorem State.mem_dueEvents_expiry {i : Instr} (hc : i.channel = some c) (hg : eventSource i = .expiry) :
    i ∈ s.dueEvents ↔ ∃ r ∈ (s.ch c).queue, i ∈ r.dueEvents c s.now (s.delay c) (s.ch c) := by
  rw [State.mem_dueEvents hr hc, hg]
  rfl

theorem State.mem_dueEvents_gate {i : Instr} (hc : i.channel = some c) (hg : eventSource i = .gate) :
    i ∈ s.dueEvents ↔ i ∈ s.gateEvents c := by
  rw [State.mem_dueEvents hr hc, hg]
  rfl

theorem State.mem_dueEvents_inserted {i : Instr} (hc : i.channel = some c) (hg : eventSource i = .inserted) :
    i ∈ s.dueEvents ↔ ∃ o f rest, s.insertedCompletes c o f rest ∧
      i ∈ insertedCommand c (Config.returnedByte c s.now) o f := by
  rw [State.mem_dueEvents hr hc, hg]
  rfl

theorem State.tailEnd_mem_dueEvents (rise : Nat) : Instr.tailEnd c rise ∈ s.dueEvents ↔
    (s.ch c).plan = .fade ∧ (s.ch c).front.map (·.rise) = some rise ∧
      ∃ r ∈ (s.ch c).queue, r.rise = rise ∧ ∃ t, r.tailEnd = some t ∧ t ≤ s.now := by
  rw [State.mem_dueEvents_expiry hr rfl rfl]
  simp only [BurstRecord.tailEnd_mem_dueEvents]
  constructor
  · rintro ⟨r, hmem, hrise, hp, hf, ht⟩
    exact ⟨hp, hf, r, hmem, hrise, ht⟩
  · rintro ⟨hp, hf, r, hmem, hrise, ht⟩
    exact ⟨r, hmem, hrise, hp, hf, ht⟩

theorem State.monitorSample_mem_dueEvents : (∃ lines, Instr.monitorSample c lines ∈ s.dueEvents) ↔
    ∃ t, (s.ch c).mon.due = some t ∧ t ≤ s.now := by
  rw [← hasCome_iff]
  constructor
  · rintro ⟨lines, h⟩
    exact ((State.mem_dueEvents hr rfl).1 h).1
  · exact fun h => ⟨_, (State.mem_dueEvents hr rfl).2 ⟨h, rfl⟩⟩

theorem State.write_mem_dueEvents (k : WriteKind) : k.command c ∈ s.dueEvents ↔ ∃ page addr data,
    s.writeCompletes c page addr data ∧ writeKind s.loaded.pageParam page addr data = k := by
  obtain ⟨hsource, hchannel⟩ := WriteKind.command_source c k
  rw [State.mem_dueEvents hr hchannel, hsource]
  simp only [State.DueFrom, (WriteKind.command_injective c).eq_iff, eq_comm (a := k)]

theorem State.grant_mem_dueEvents (w : Work) : w.command c ∈ s.dueEvents ↔ s.choice c = some w := by
  obtain ⟨hsource, hchannel⟩ := Work.command_source c w
  rw [State.mem_dueEvents hr hchannel, hsource]
  simp [State.DueFrom, (Work.command_injective c).eq_iff]

end

/-- Settles O4: an event is due when its one source on its own channel holds it. -/
theorem dueEventsOfAChannel : Obligations.DueEventsOfAChannel := by
  intro c s hr
  refine ⟨fun rise => ?_, fun rise => ?_, fun rise => ?_, ?_, ?_, State.monitorSample_mem_dueEvents hr,
    State.tailEnd_mem_dueEvents hr, ?_, ?_, ?_, ?_, ?_, State.write_mem_dueEvents hr, fun byte i hi => ?_,
      fun byte => ?_,
    ?_, ?_, ?_, State.grant_mem_dueEvents hr⟩
  · rw [State.mem_dueEvents_expiry hr rfl rfl]
    simp only [BurstRecord.warmStart_mem_dueEvents]
  · rw [State.mem_dueEvents_expiry hr rfl rfl]
    simp only [BurstRecord.writeStart_mem_dueEvents]
  · rw [State.mem_dueEvents_expiry hr rfl rfl]
    simp only [BurstRecord.writeEnd_mem_dueEvents]
  · rw [State.mem_dueEvents hr rfl, ← Channel.stalled_isSome_iff]
    exact and_iff_left rfl
  · exact (State.mem_dueEvents hr rfl).trans (and_iff_left rfl)
  · rw [State.mem_dueEvents_gate hr rfl rfl, ← riseTaken_iff]
    simp [State.gateEvents]
  · rw [State.mem_dueEvents_gate hr rfl rfl, ← fallTaken_iff]
    simp [State.gateEvents]
  · rw [State.mem_dueEvents_gate hr rfl rfl, ← servoRiseTaken_iff]
    simp [State.gateEvents]
  · rw [State.mem_dueEvents_gate hr rfl rfl, ← servoFallTaken_iff]
    simp [State.gateEvents]
  · rw [State.mem_dueEvents_gate hr rfl rfl]
    simp [State.gateEvents, Channel.markWaits_iff, and_assoc]
  · obtain ⟨hsource, hchannel⟩ := source_of_mem_reads hi
    rw [State.mem_dueEvents hr hchannel, hsource]
    rfl
  · rw [State.mem_dueEvents_inserted hr rfl rfl]
    simp only [mem_insertedCommand_learningRead]
    constructor
    · rintro ⟨o, f, rest, hd, hbyte, rfl, hf⟩
      exact ⟨hbyte, f, rest, hd, hf⟩
    · rintro ⟨hbyte, f, rest, hd, hf⟩
      exact ⟨_, f, rest, hd, hbyte, rfl, hf⟩
  · rw [State.mem_dueEvents_inserted hr rfl rfl]
    simp only [mem_insertedCommand_pageSelect]
    constructor
    · rintro ⟨o, f, rest, hd, p, rfl⟩
      exact ⟨o, p, rest, hd⟩
    · rintro ⟨o, p, rest, hd⟩
      exact ⟨o, _, rest, hd, p, rfl⟩
  · rw [State.mem_dueEvents_inserted hr rfl rfl]
    simp only [mem_insertedCommand_upkeep]
    constructor
    · rintro ⟨o, f, rest, hd, rfl, addr, data, rfl⟩
      exact ⟨addr, data, rest, hd⟩
    · rintro ⟨addr, data, rest, hd⟩
      exact ⟨_, _, rest, hd, rfl, addr, data, rfl⟩
  · rw [State.mem_dueEvents_inserted hr rfl rfl]
    simp only [mem_insertedCommand_journal]
    constructor
    · rintro ⟨o, f, rest, hd, ⟨addr, data, rfl⟩, ho⟩
      exact ⟨o, addr, data, rest, hd, ho⟩
    · rintro ⟨o, addr, data, rest, hd, ho⟩
      exact ⟨o, _, rest, hd, ⟨addr, data, rfl⟩, ho⟩

end Sys2Proof.Machine
end

section
/-! SUPPORT. What a state shows outside: the lines it drives, the target, readiness and activity of a channel, and the
summary byte (R29, R30, R58, R119, R136, R142, R148 to R150, R167, R176, R177). -/

namespace Sys2Proof.Machine

/-! ## The driven lines (R29, R131, R134, R136, R177) -/

theorem Level.heated_iff {l : Level} : l.heated = true ↔ l = .warm ∨ l = .write := by
  cases l <;> simp [Level.heated]

/-- Six bits of two's complement hold a value from −32 to 31 (R177). -/
theorem toInt_ofInt_six {x : Int} (h : -32 ≤ x ∧ x ≤ 31) : (BitVec.ofInt 6 x).toInt = x := by
  rw [BitVec.toInt_ofInt, Int.bmod_eq_of_le]
  · simpa using h.1
  · simp only [Nat.reducePow]; omega

theorem Channel.trmLines_toInt {ch : Channel} (h : -32 ≤ ch.heldTrim ∧ ch.heldTrim ≤ 31) :
    ch.trmLines.toInt = if ch.lvl = .warm ∨ ch.lvl = .write then ch.heldTrim else 0 := by
  unfold Channel.trmLines Channel.trm
  simp only [Level.heated_iff]
  split
  · exact toInt_ofInt_six h
  · rfl

theorem Channel.dselActive_iff {ch : Channel} : ch.dselActive = true ↔ ch.port.job ≠ none := by
  rw [Channel.dselActive, Option.isSome_iff_ne_none]

theorem selectActive_iff {line : Bool} : selectActive line = true ↔ line = false := by
  rw [selectActive, Bool.not_eq_true']

theorem selectLine_eq_false_iff {active : Bool} : selectLine active = false ↔ active = true := by
  rw [selectLine, Bool.not_eq_false']

theorem State.sdoByte_of_delivering {s : State} {c : Chan} {byte : Byte} (h : s.reception = .delivering c byte) :
    s.sdoByte = byte := by
  rw [State.sdoByte, h]

/-- SDO is high but for a read that is served (R131, R134). -/
theorem State.sdoByte_of_not_delivering {s : State} (h : ∀ c byte, s.reception ≠ .delivering c byte) :
    s.sdoByte = 0xFF := by
  unfold State.sdoByte
  split
  · next c byte hx => exact absurd hx (h c byte)
  all_goals rfl

/-- Settles O42, line by line. -/
theorem drivenLines : Obligations.DrivenLines := by
  intro s ch
  refine ⟨?_, fun hl hu => Channel.trmLines_toInt ⟨hl, hu⟩, Channel.dselActive_iff,
    selectLine_eq_false_iff.trans Channel.dselActive_iff, fun _ => selectActive_iff,
    fun _ _ => State.sdoByte_of_delivering, State.sdoByte_of_not_delivering⟩
  unfold Channel.lvlLines
  cases ch.lvl <;> rfl

/-! ## The target and what follows from it (R30, R119, R142, R148 to R150) -/

/-- A base of a band is the written byte at its page address (R117). -/
theorem HeadEntry.base_eq_some {e : HeadEntry} {band : BitVec 3} {k : Nat} {b : Byte} :
    e.base band k = some b ↔ e.bases[3 * band.toNat + k]? = some (some b) := Option.join_eq_some_iff

namespace Channel

variable {ch : Channel}

/-- The head that the shadow names, with its entry (R7, R114). -/
theorem shadowHead_eq_some {n : Nat} : ch.shadowHead = some n ↔
    ∃ sel h, ch.port.headSel = some sel ∧ sel.toNat = n ∧ ch.heads[n]? = some h := by
  unfold Channel.shadowHead
  constructor
  · intro hs
    split at hs
    · next sel hsel =>
      split at hs
      · next hlt => cases hs; exact ⟨sel, _, hsel, rfl, List.getElem?_eq_getElem hlt⟩
      · cases hs
    · cases hs
  · rintro ⟨sel, h, hsel, rfl, hh⟩
    rw [hsel]
    exact if_pos (List.getElem?_eq_some_iff.1 hh).1

theorem entry_of_getElem? {n : Nat} {h : Head} (hh : ch.heads[n]? = some h) : ch.entry (some n) = h.cal := by
  simp [Channel.entry, hh]

theorem target_eq_some {b w v : Byte} : ch.target = some (b, w, v) ↔
    ∃ n, ch.shadowHead = some n ∧ (ch.entry (some n)).base ch.set.band 0 = some b ∧
      (ch.entry (some n)).base ch.set.band 1 = some w ∧ (ch.entry (some n)).base ch.set.band 2 = some v := by
  unfold Channel.target
  constructor
  · intro ht
    split at ht
    · cases ht
    · next n hn =>
      split at ht
      · next hb hw hv => cases ht; exact ⟨n, hn, hb, hw, hv⟩
      · cases ht
  · rintro ⟨n, hn, hb, hw, hv⟩
    rw [hn]
    dsimp only
    rw [hb, hw, hv]

/-- The target is the three written bases of the configured head that the shadow names (R119, R148). -/
theorem target_eq_some_iff_bases {b w v : Byte} : ch.target = some (b, w, v) ↔
    ∃ n h, ch.port.headSel = some n ∧ ch.heads[n.toNat]? = some h ∧
      h.cal.bases[3 * ch.set.band.toNat]? = some (some b) ∧
      h.cal.bases[3 * ch.set.band.toNat + 1]? = some (some w) ∧
      h.cal.bases[3 * ch.set.band.toNat + 2]? = some (some v) := by
  simp only [target_eq_some, shadowHead_eq_some, HeadEntry.base_eq_some]
  constructor
  · rintro ⟨_, ⟨n, h, hn, rfl, hh⟩, hb, hw, hv⟩
    rw [entry_of_getElem? hh] at hb hw hv
    exact ⟨n, h, hn, hh, hb, hw, hv⟩
  · rintro ⟨n, h, hn, hh, hb, hw, hv⟩
    refine ⟨n.toNat, ⟨n, h, hn, rfl, hh⟩, ?_⟩
    rw [entry_of_getElem? hh]
    exact ⟨hb, hw, hv⟩

theorem restLevel_eq : ch.restLevel = if ch.set.mode = .normal ∧ ch.target ≠ none then .bias else .off :=
  if_congr (and_congr_right fun _ => Option.isSome_iff_ne_none) rfl rfl


end Channel

theorem PlanState.serving_iff {p : PlanState} : p.serving = true ↔ p ∈ [.lead, .warm, .write, .fade] := by
  cases p <;> simp [PlanState.serving]

theorem LevelImage.agrees_iff {img : LevelImage} {b w v : Byte} :
    img.agrees (b, w, v) = true ↔ img = ⟨some b, some w, some v⟩ := by
  obtain ⟨bias, warm, write⟩ := img
  simp [LevelImage.agrees, and_assoc]

namespace Channel

variable {ch : Channel}

theorem ready_iff : ch.ready = true ↔ ch.upkeepRunning = false ∧ ∃ b w v, ch.target = some (b, w, v) ∧
    ch.image = ⟨some b, some w, some v⟩ := by
  simp only [Channel.ready, Bool.and_eq_true, Bool.not_eq_true', Option.any_eq_true, Prod.exists,
    LevelImage.agrees_iff, and_comm]

theorem upkeepRequest_iff : ch.upkeepRequest = true ↔ ch.upkeepRunning = false ∧
    ∃ b w v, ch.target = some (b, w, v) ∧ ch.image ≠ ⟨some b, some w, some v⟩ := by
  simp only [Channel.upkeepRequest, Channel.upkeepNeed, Bool.and_eq_true, Bool.not_eq_true', Option.any_eq_true,
    Prod.exists, ← Bool.not_eq_true, LevelImage.agrees_iff, ne_eq, and_comm]

theorem active_iff : ch.active = true ↔ (∃ r ∈ ch.queue, r.outcome = .accepted ∨ r.outcome = .shadow) ∨
    ch.plan ∈ [.lead, .warm, .write, .fade] := by
  rw [Channel.active, Bool.or_eq_true, List.any_eq_true, PlanState.serving_iff]
  simp only [BurstRecord.served_iff]

end Channel

/-- Settles O40: each condition by its own equivalence. -/
theorem targetReadinessAndActivity : Obligations.TargetReadinessAndActivity := fun _ _ =>
  ⟨fun _ _ _ => Channel.target_eq_some_iff_bases, Channel.restLevel_eq, rfl, Channel.upkeepRunning_iff,
    Channel.ready_iff, Channel.upkeepRequest_iff, Channel.active_iff⟩

/-! ## The summary byte (R58, R167, R176) -/

namespace Channel

theorem condition_le (ch : Channel) : ch.condition ≤ 3 := by
  unfold Channel.condition
  split_ifs <;> omega

/-- With eight slots the four fields do not overlap, and the number fits the byte. -/
theorem summary_toNat {ch : Channel} (h : ch.jnl.slots.length = 8) : ch.jnl.occupied ≤ 8 ∧
    ch.summary.toNat = ch.jnl.occupied + 16 * ch.jnl.dropped.toNat + 32 * ch.wu.toNat + 64 * ch.condition := by
  have hocc : ch.jnl.occupied ≤ 8 := h ▸ List.countP_le_length
  have hd := Bool.toNat_le ch.jnl.dropped
  have hw := Bool.toNat_le ch.wu
  have hc := ch.condition_le
  refine ⟨hocc, ?_⟩
  rw [Channel.summary, BitVec.toNat_ofNat]
  exact Nat.mod_eq_of_lt (by omega)

end Channel

/-- A bit of a word is the parity of the quotient. -/
theorem getLsbD_eq_of_toNat {w : Byte} {i : Nat} {b : Bool} (h : w.toNat / 2 ^ i % 2 = b.toNat) : w.getLsbD i = b := by
  rw [← BitVec.testBit_toNat, Nat.testBit_eq_decide_div_mod_eq, h]
  cases b <;> rfl

/-- Settles O43: the byte's number is a sum of four fields that do not overlap. -/
theorem summaryByte : Obligations.SummaryByte := by
  intro ch hs
  obtain ⟨hocc, hsum⟩ := Channel.summary_toNat hs
  have hd := Bool.toNat_le ch.jnl.dropped
  have hw := Bool.toNat_le ch.wu
  refine ⟨?_, getLsbD_eq_of_toNat ?_, getLsbD_eq_of_toNat ?_, ?_⟩
  · rw [hsum, ← List.countP_eq_length_filter]
    show _ = ch.jnl.occupied
    omega
  · rw [hsum]; omega
  · rw [hsum]; omega
  · rw [hsum]
    show _ = ch.condition
    omega

/-! ## Mode writes (R48 to R50, R123) -/

theorem writeKind_mode {l : LoadedCopy} (hl : l.Law) (data : Byte) :
    writeKind l.pageParam (some l.pageParam) 0x41 data =
      if data.toNat % 4 = 0 then .modeNormal else if data.toNat % 4 = 1 then .modeShadow else .modeHalt := by
  rw [writeKind_param hl (by decide)]
  simp [paramWriteKind]

namespace Channel

variable {now : Nat} {m : Mode} {ch : Channel}

/-- The channel with its mode written, before the Planner acts on it (R123). -/
def moded (m : Mode) (ch : Channel) : Channel := { ch with set := { ch.set with mode := m } }

theorem moded_restLevel : (ch.moded m).restLevel = if m = .normal ∧ ch.target ≠ none then .bias else .off :=
  (ch.moded m).restLevel_eq

theorem setHalt_eq (hp : ch.plan ≠ .parked) : ch.setHalt now =
    if ch.plan = .halted then ch.moded .halt else (ch.moded .halt).shutDown now .halted .halt .halted := by
  show (ch.moded .halt).enterHalted now = _
  have hpark : (ch.moded .halt).plan = .halted ∨ (ch.moded .halt).plan = .parked ↔ ch.plan = .halted :=
    or_iff_left hp
  unfold Channel.enterHalted
  simp only [hpark]

theorem setRunMode_eq : ch.setRunMode now m =
    if ch.plan = .halted then
      { ch.moded m with
        plan := .rest, lvl := (ch.moded m).restLevel, heldTrim := 0, dwg := false
        mon := ch.mon.follow ch.lvl (ch.moded m).restLevel now ch.set.monPeriod }
    else if ch.plan = .rest then
      { ch.moded m with
        lvl := (ch.moded m).restLevel, mon := ch.mon.follow ch.lvl (ch.moded m).restLevel now ch.set.monPeriod }
    else ch.moded m := by
  show (if ch.plan = .halted then (ch.moded m).enterRest now else (ch.moded m).refreshRest now) = _
  rw [enterRest_eq]
  rfl

end Channel

/-- Settles O45: the data byte gives the mode, and the plan state what the Planner does with it. -/
theorem modeWrites : Obligations.ModeWrites := by
  intro c s ch data hs hl hw hp moded level run
  have hk := writeKind_mode hl data
  have hrun (m : Mode) : ch.setRunMode s.now m = run m := by
    rw [Channel.setRunMode_eq, Channel.moded_restLevel]
    rfl
  refine ⟨fun hd => ?_, fun hd => ?_, fun hd => ?_⟩
  · rw [if_neg (by omega), if_neg (by omega)] at hk
    rw [show exec (.modeWriteHalt c) s = _ from exec_write hs hw hk]
    show Host.Outcome.next (s.delivered c fun _ => ch.setHalt s.now) = _
    rw [Channel.setHalt_eq hp]
    rfl
  · rw [if_pos hd] at hk
    rw [show exec (.modeWriteNormal c) s = _ from exec_write hs hw hk]
    exact congrArg (fun x => Host.Outcome.next (s.delivered c fun _ => x)) (hrun .normal)
  · rw [if_neg (by omega), if_pos hd] at hk
    rw [show exec (.modeWriteShadow c) s = _ from exec_write hs hw hk]
    exact congrArg (fun x => Host.Outcome.next (s.delivered c fun _ => x)) (hrun .shadow)

end Sys2Proof.Machine
end

section
/-! SUPPORT. Entries into WARM and WRITE, the warm start and the tail end of a record, written out (R19, R28, R29, R32
to R34, R38, R47, R77 to R81). -/

namespace Sys2Proof.Machine

/-! ## Entries into WARM and WRITE (R28, R29, R34, R47, R77 to R81) -/

namespace Channel

variable {now delay : Nat} {ch : Channel} {p : PlanState} {r : BurstRecord}

/-- The level of an entry into WARM or WRITE (R28, R47). -/
theorem servedLevel_warm_or_write (hp : p = .warm ∨ p = .write) (r : BurstRecord) :
    servedLevel p r = if r.isAccepted then (if p = .warm then .warm else .write) else .bias := by
  rcases hp with rfl | rfl <;> rfl

/-- No ceiling from −32 up brings the upper bound of a trim below −32 (R78, R91). -/
theorem upper_ge (hk : ∀ k, r.ceiling = some k → -32 ≤ k) : -32 ≤ r.upper := by
  unfold BurstRecord.upper
  split
  · cases hc : r.ceiling with
    | none => decide
    | some k => have := hk k hc; simp only [Option.getD_some]; omega
  · decide

/-- A fresh set: the raw trim where it is in range, and otherwise the bound it exceeds and a TRIM_LIMIT (R79, R81). -/
theorem enterFresh_cases (hu : -32 ≤ r.upper) :
    ch.enterFresh now p r =
      if r.upper < ch.rawTrim r.head then
        (ch.post .trimLimit (headCode r.head) (if r.upper < 31 then 1 else 3)).place now p (servedLevel p r) r.upper
      else if ch.rawTrim r.head < -32 then
        (ch.post .trimLimit (headCode r.head) 2).place now p (servedLevel p r) (-32)
      else ch.place now p (servedLevel p r) (ch.rawTrim r.head) := by
  unfold Channel.enterFresh Channel.reportLimit Channel.freshTrim trimLimitDetail clamp
  by_cases habove : r.upper < ch.rawTrim r.head
  · have hbelow : ¬ ch.rawTrim r.head < -32 := by omega
    simp only [if_pos habove, if_neg hbelow]
    split_ifs <;> rfl
  · by_cases hbelow : ch.rawTrim r.head < -32
    · simp only [if_neg habove, if_pos hbelow]
    · simp only [if_neg habove, if_neg hbelow]

/-- The hand-over clamp (R29). -/
theorem enterKept_cases (hu : -32 ≤ r.upper) : ch.enterKept now p r = ch.place now p (servedLevel p r)
    (if r.upper < ch.heldTrim then r.upper else if ch.heldTrim < -32 then -32 else ch.heldTrim) := by
  have hclamp : clamp (-32) r.upper ch.heldTrim =
      if r.upper < ch.heldTrim then r.upper else if ch.heldTrim < -32 then -32 else ch.heldTrim := by
    unfold clamp
    split_ifs <;> omega
  rw [Channel.enterKept, hclamp]

theorem handOver_eq (old r : BurstRecord) (ch : Channel) : ch.handOver now p old r =
    if old.isShadow = true ∧ r.isAccepted = true then ch.enterFresh now p r else ch.enterKept now p r := by
  simp only [Channel.handOver, Bool.and_eq_true]

end Channel

/-- Settles O18: where the raw or the held trim lies against −32 and the upper bound. -/
theorem entryIntoWarmAndWrite : Obligations.EntryIntoWarmAndWrite := by
  intro now p old r ch hp hk u raw level into
  have hu := Channel.upper_ge hk
  have hlevel : servedLevel p r = level := Channel.servedLevel_warm_or_write hp r
  refine ⟨?_, ?_, Channel.handOver_eq old r ch⟩
  · rw [Channel.enterFresh_cases hu, hlevel]
    rfl
  · rw [Channel.enterKept_cases hu, hlevel]
    rfl

/-! ## The warm start and the tail end as commands (R32; log 4, 9) -/

section
variable {c : Chan} {s : State} {ch : Channel} {r : BurstRecord} (hs : s.ch c = ch) (hrec : ch.recordAt r.rise = some r)
include hs hrec

theorem exec_warmStart {l : Nat} (hr : s.phase = .running) (hl : r.lead = some l) (ht : r.warmTaken = false)
    (hd : r.rise + s.delay c - l ≤ s.now) :
    exec (.warmStart c r.rise) s = .next (s.upd c fun _ => ch.takeWarmStart s.now r) := by
  subst hs
  simp only [exec, execWarmStart, hrec]
  refine next_of_taken rfl hr ?_
  rw [BurstRecord.warmDue, ht, (hasCome_warmStart hl).2 hd]
  rfl

theorem exec_warmStart_early {l : Nat} (hl : r.lead = some l)
    (h : r.warmTaken = true ∨ s.now < r.rise + s.delay c - l) : exec (.warmStart c r.rise) s = .next s := by
  subst hs
  simp only [exec, execWarmStart, hrec]
  refine next_of_not_taken ?_
  rw [BurstRecord.warmDue, Bool.and_eq_false_iff, Bool.not_eq_false', ← Bool.not_eq_true (hasCome _ _),
    hasCome_warmStart hl]
  exact h.imp id Nat.not_le_of_lt

theorem exec_tailEnd {t : Nat} (hr : s.phase = .running) (hl : r.tailEnd = some t) (hp : ch.plan = .fade)
    (hf : ch.front = some r) (hd : t ≤ s.now) :
    exec (.tailEnd c r.rise) s = .next (s.upd c fun _ => (ch.leave r).placeAfter s.now (s.delay c) r) := by
  subst hs
  simp only [exec, execTailEnd, hrec]
  exact next_of_taken rfl hr (Channel.tailDue_iff.2 ⟨hp, by rw [hf]; rfl, t, hl, hd⟩)

theorem exec_tailEnd_early {t : Nat} (hl : r.tailEnd = some t) (h : ch.plan ≠ .fade ∨ s.now < t) :
    exec (.tailEnd c r.rise) s = .next s := by
  subst hs
  simp only [exec, execTailEnd, hrec]
  refine next_of_not_taken (Bool.eq_false_iff.2 fun hdue => ?_)
  obtain ⟨hp, -, t', ht', hle⟩ := Channel.tailDue_iff.1 hdue
  rw [hl] at ht'
  cases ht'
  rcases h with h | h
  · exact h hp
  · omega

end

/-- The tail end of a record that has left the queue (R32). -/
theorem exec_tailEnd_gone {c : Chan} {s : State} {rise : Nat} (h : (s.ch c).recordAt rise = none) :
    exec (.tailEnd c rise) s = .next s := by
  simp only [exec, execTailEnd, h]

/-! ## What a warm start does (R33, R34) -/

namespace Channel

variable {now delay : Nat} {ch : Channel} {r : BurstRecord}

/-- The mark that a record's warm start has been taken (R32; log 9). -/
def warmMark (r : BurstRecord) : BurstRecord := { r with warmTaken := true }

theorem warmMark_rise (r : BurstRecord) : (warmMark r).rise = r.rise := rfl

theorem warmMark_outcome (r : BurstRecord) : (warmMark r).outcome = r.outcome := rfl

theorem isThe_map {g : BurstRecord → BurstRecord} (hg : ∀ x, (g x).rise = x.rise) (r : BurstRecord)
    (o : Option BurstRecord) : r.isThe (o.map g) = r.isThe o := by
  cases o with
  | none => rfl
  | some x => simp [BurstRecord.isThe, hg]

section
variable {f : BurstRecord → BurstRecord} (ho : ∀ x, (f x).outcome = x.outcome) (hr : ∀ x, (f x).rise = x.rise)
include ho hr

/-- A mark leaves which record the front record and the next record are (R12). -/
theorem isThe_updRecord_front (r : BurstRecord) (rise : Nat) (ch : Channel) :
    r.isThe (ch.updRecord rise f).front = r.isThe ch.front := by
  rw [front_updRecord ho]
  exact isThe_map (fun x => by split; exacts [hr x, rfl]) r _

theorem isThe_updRecord_nextUp (r : BurstRecord) (rise : Nat) (ch : Channel) :
    r.isThe (ch.updRecord rise f).nextUp = r.isThe ch.nextUp := by
  rw [nextUp_updRecord ho]
  exact isThe_map (fun x => by split; exacts [hr x, rfl]) r _

end

theorem takeWarmStart_eq (r : BurstRecord) (ch : Channel) : ch.takeWarmStart now r =
    if r.served then (ch.updRecord r.rise warmMark).warmExpiry now r else ch.updRecord r.rise warmMark := rfl

/-- The warm start of the front record in LEAD (R33). -/
theorem takeWarmStart_lead (hs : r.served = true) (hp : ch.plan = .lead) (hf : ch.front = some r) :
    ch.takeWarmStart now r = (ch.updRecord r.rise warmMark).enterFresh now .warm r := by
  have hthe : r.isThe (ch.updRecord r.rise warmMark).front = true := by
    rw [isThe_updRecord_front warmMark_outcome warmMark_rise, isThe_iff]
    exact ⟨r, hf, rfl⟩
  rw [takeWarmStart_eq, if_pos hs]
  exact if_pos ⟨hp, hthe⟩

/-- The warm start of the next record in FADE (R34). -/
theorem takeWarmStart_fade {old : BurstRecord} (hs : r.served = true) (hp : ch.plan = .fade) (hf : ch.front = some old)
    (hn : ch.nextUp = some r) (hne : old.rise ≠ r.rise) :
    ch.takeWarmStart now r = ((ch.updRecord r.rise warmMark).leave old).handOver now .warm old r := by
  have hthe : r.isThe (ch.updRecord r.rise warmMark).nextUp = true := by
    rw [isThe_updRecord_nextUp warmMark_outcome warmMark_rise, isThe_iff]
    exact ⟨r, hn, rfl⟩
  have hold : (ch.updRecord r.rise warmMark).front = some old := by
    rw [front_updRecord warmMark_outcome, hf, Option.map_some, if_neg hne]
  have hplan : (ch.updRecord r.rise warmMark).plan = .fade := hp
  rw [takeWarmStart_eq, if_pos hs, Channel.warmExpiry, if_neg (by rw [hplan]; nofun), if_pos ⟨hplan, hthe⟩, hold]

/-- The Planner acts on no other warm start (R33, R34). -/
theorem takeWarmStart_mark (hl : ch.plan = .lead → ch.front.map (·.rise) ≠ some r.rise)
    (hf : ch.plan = .fade → ch.nextUp.map (·.rise) ≠ some r.rise) :
    ch.takeWarmStart now r = ch.updRecord r.rise warmMark := by
  have hlead : ¬ (ch.plan = .lead ∧ r.isThe (ch.updRecord r.rise warmMark).front = true) := by
    rintro ⟨hp, h⟩
    rw [isThe_updRecord_front warmMark_outcome warmMark_rise, isThe_front] at h
    exact hl hp h
  have hfade : ¬ (ch.plan = .fade ∧ r.isThe (ch.updRecord r.rise warmMark).nextUp = true) := by
    rintro ⟨hp, h⟩
    rw [isThe_updRecord_nextUp warmMark_outcome warmMark_rise, isThe_iff] at h
    obtain ⟨x, hx, he⟩ := h
    exact hf hp (by rw [hx, Option.map_some, he])
  have hstay : (ch.updRecord r.rise warmMark).warmExpiry now r = ch.updRecord r.rise warmMark :=
    (if_neg hlead).trans (if_neg hfade)
  rw [takeWarmStart_eq, hstay, ite_self]

theorem takeWarmStart_elsewhere (hp : ch.plan ≠ .lead ∧ ch.plan ≠ .fade) :
    ch.takeWarmStart now r = ch.updRecord r.rise warmMark :=
  takeWarmStart_mark (fun h => absurd h hp.1) fun h => absurd h hp.2

end Channel

/-- Settles O30: the Planner acts on the front record's in LEAD and on the next record's in FADE. -/
theorem warmStartOfARecord : Obligations.WarmStartOfARecord := by
  intro c s ch r l hs hr hrec hl marked
  refine ⟨exec_warmStart_early hs hrec hl, fun ht hd => ?_⟩
  rw [exec_warmStart hs hrec hr hl ht hd]
  refine ⟨fun hsv hp hf => ?_, fun old hsv hp hf hn hne => ?_, fun hp hf => ?_, fun hp hn => ?_, fun h => ?_⟩
  · rw [Channel.takeWarmStart_lead hsv hp hf]
    rfl
  · rw [Channel.takeWarmStart_fade hsv hp hf hn hne]
    rfl
  · rw [Channel.takeWarmStart_mark (fun _ => hf) fun h => by rw [hp] at h; cases h]
    rfl
  · rw [Channel.takeWarmStart_mark (fun h => by rw [hp] at h; cases h) fun _ => hn]
    rfl
  · rcases h with h | h
    · rw [Channel.takeWarmStart_eq, if_neg (by rw [h]; decide)]
      rfl
    · have hother : ch.plan ≠ .lead ∧ ch.plan ≠ .fade := by
        constructor
        all_goals
          intro hp
          simp [hp] at h
      rw [Channel.takeWarmStart_elsewhere hother]
      rfl

/-! ## What a tail end does (R38) -/

namespace Channel

variable {now delay : Nat} {ch : Channel} {r : BurstRecord}

theorem leave_enterLead : (ch.leave r).enterLead now = { ch.leave r with
    plan := .lead, lvl := .bias, heldTrim := 0, dwg := false
    mon := ch.mon.follow ch.lvl .bias now ch.set.monPeriod } := by
  rw [enterLead_eq]
  simp only [leave_frame]

theorem leave_enterRest : (ch.leave r).enterRest now = { ch.leave r with
    plan := .rest, lvl := ch.restLevel, heldTrim := 0, dwg := false
    mon := ch.mon.follow ch.lvl ch.restLevel now ch.set.monPeriod } := by
  have hrest : (ch.leave r).restLevel = ch.restLevel := restLevel_of_set_eq (by simp) (by simp) (by simp)
  rw [enterRest_eq, hrest]
  simp only [leave_frame]

end Channel

/-- Settles O33: the placement after the faded record has left turns on the next record. -/
theorem tailEndOfARecord : Obligations.TailEndOfARecord := by
  intro c s ch r t hs hr hrec ht placed
  refine ⟨exec_tailEnd_early hs hrec ht, fun hp hd hf hnodup => ?_⟩
  obtain ⟨hplaceRest, hplaceWarm, hplaceLead⟩ :=
    Channel.placeAfter_eq (now := s.now) (delay := s.delay c) r (ch.leave r)
  have hnext : (ch.leave r).front = ch.nextUp := Channel.front_leave hnodup hf
  rw [exec_tailEnd hs hrec hr ht hp hf hd]
  refine ⟨fun n l hn hl hw => ?_, fun n l hn hl hw => ?_, fun hn => ?_⟩
  · rw [hplaceWarm n (hnext.trans hn) ((hasCome_warmStart hl).2 hw)]
  · rw [hplaceLead n (hnext.trans hn) (by rw [hasCome_warmStart hl]; omega), Channel.leave_enterLead]
  · rw [hplaceRest (hnext.trans hn), Channel.leave_enterRest]

end Sys2Proof.Machine
end

section
/-! SUPPORT. Expiries of one instant whose order is of no matter: a record's warm and write start at a lead of 0, and
the next record's warm start beside a write or tail end (R36 to R38). Both orders are brought to one form, in which the
Planner's act comes first and the marks of the expiries last. -/

namespace Sys2Proof.Machine

namespace Channel

variable {now delay rise : Nat} {ch ch' : Channel} {p : PlanState} {r old : BurstRecord}

/-! ## The record of a rise (R9) -/

theorem recordAt_of_mem (hd : ch.RisesDistinct) (hr : r ∈ ch.queue) : ch.recordAt r.rise = some r := by
  unfold Channel.recordAt
  cases hx : ch.queue.find? (·.rise == r.rise) with
  | none => exact absurd (List.find?_eq_none.1 hx r hr) (by simp)
  | some x => rw [hd.eq hr (List.mem_of_find?_eq_some hx) (by simpa using List.find?_some hx)]

theorem recordAt_congr (hq : ch'.queue = ch.queue) (rise : Nat) : ch'.recordAt rise = ch.recordAt rise := by
  rw [Channel.recordAt, hq, Channel.recordAt]

theorem front_congr (hq : ch'.queue = ch.queue) : ch'.front = ch.front := by rw [Channel.front, hq, Channel.front]

theorem recordAt_updRecord {f : BurstRecord → BurstRecord} (hr : ∀ x, (f x).rise = x.rise) (n : Nat) :
    (ch.updRecord rise f).recordAt n = (ch.recordAt n).map fun x => if x.rise = rise then f x else x := by
  have hrise (x : BurstRecord) : (if x.rise = rise then f x else x).rise = x.rise := by
    split
    exacts [hr x, rfl]
  unfold Channel.recordAt
  simp only [(ch.updRecord_fields rise f).1, List.find?_map, Function.comp_def, hrise]

theorem leave_queue (old : BurstRecord) (ch : Channel) :
    (ch.leave old).queue = ch.queue.filter (·.rise != old.rise) := by simp [Channel.leave]

theorem recordAt_leave {n : Nat} (h : old.rise ≠ n) : (ch.leave old).recordAt n = ch.recordAt n := by
  rw [Channel.recordAt, leave_queue, List.find?_filter, Channel.recordAt]
  congr 1
  funext x
  by_cases hx : x.rise = n
  · simp [hx, Ne.symm h]
  · simp [hx]

theorem recordAt_leave_self (old : BurstRecord) (ch : Channel) : (ch.leave old).recordAt old.rise = none := by
  rw [Channel.recordAt, leave_queue, List.find?_filter, List.find?_eq_none]
  simp

/-- The next record is not the front record (R9, R12). -/
theorem front_rise_ne_nextUp (hd : ch.RisesDistinct) (hf : ch.front = some old) (hn : ch.nextUp = some r) :
    old.rise ≠ r.rise := by
  have hmem : r ∈ (ch.leave old).queue := front_mem ((front_leave hd hf).trans hn)
  rw [leave_queue, List.mem_filter, bne_iff_ne] at hmem
  exact hmem.2.symm

theorem nextUp_served (h : ch.nextUp = some r) : r.served = true :=
  (List.mem_filter.1 (List.mem_of_mem_drop (List.mem_of_mem_head? h))).2

/-! ## A mark stands apart from what the Planner does -/

/-- The mark that a record's write start has been taken (R32; log 9). -/
def startMark (r : BurstRecord) : BurstRecord := { r with startTaken := true }

theorem startMark_rise (r : BurstRecord) : (startMark r).rise = r.rise := rfl

theorem startMark_outcome (r : BurstRecord) : (startMark r).outcome = r.outcome := rfl

section
variable {f : BurstRecord → BurstRecord}

theorem updRecord_enterFresh : (ch.updRecord rise f).enterFresh now p r = (ch.enterFresh now p r).updRecord rise f := by
  have hreport : (ch.updRecord rise f).reportLimit r = (ch.reportLimit r).updRecord rise f := by
    have hraw : (ch.updRecord rise f).rawTrim r.head = ch.rawTrim r.head := rfl
    unfold Channel.reportLimit
    rw [hraw]
    cases trimLimitDetail (ch.rawTrim r.head) r.upper <;> rfl
  unfold Channel.enterFresh
  rw [hreport]
  rfl

theorem updRecord_handOver :
    (ch.updRecord rise f).handOver now p old r = (ch.handOver now p old r).updRecord rise f := by
  unfold Channel.handOver
  split
  · exact updRecord_enterFresh
  · rfl

/-- A mark on a record that stays. -/
theorem updRecord_leave (ho : ∀ x, (f x).outcome = x.outcome) (hr : ∀ x, (f x).rise = x.rise) :
    (ch.updRecord rise f).leave old = (ch.leave old).updRecord rise f := by
  have hrise (x : BurstRecord) : (if x.rise = rise then f x else x).rise = x.rise := by
    split
    exacts [hr x, rfl]
  have haccepted (x : BurstRecord) : (if x.rise = rise then f x else x).isAccepted = x.isAccepted := by
    split
    exacts [BurstRecord.isAccepted_congr (ho x), rfl]
  unfold Channel.leave Channel.releaseIfQuiet Channel.updRecord
  simp only [List.filter_map, List.any_map, Function.comp_def, hrise, haccepted]
  split <;> rfl

end

/-! ## WRITE entered by way of WARM at one instant (R36) -/

/-- WARM and WRITE, entered one after the other for a record, leave the monitor as WRITE alone (R47, R101, R102). -/
theorem follow_warm_write {l : Level} (hl : l ≠ .write) (r : BurstRecord) (now period : Nat) (m : Monitor) :
    (m.follow l (servedLevel .warm r) now period).follow (servedLevel .warm r) (servedLevel .write r) now period =
      m.follow l (servedLevel .write r) now period := by
  cases ha : r.isAccepted with
  | false =>
    rw [show servedLevel .write r = servedLevel .warm r by simp [servedLevel, ha]]
    exact follow_self _ _ _ _
  | true =>
    rw [show servedLevel .warm r = .warm by simp [servedLevel, ha],
      show servedLevel .write r = .write by simp [servedLevel, ha]]
    cases l with
    | write => exact absurd rfl hl
    | off | bias | warm => rfl

theorem place_warm_write (hl : ch.lvl ≠ .write) (r : BurstRecord) (trim : Int) :
    (ch.place now .warm (servedLevel .warm r) trim).place now .write (servedLevel .write r) trim =
      ch.place now .write (servedLevel .write r) trim := by
  have hmon := follow_warm_write hl r now ch.set.monPeriod ch.mon
  unfold Channel.place Channel.drive
  dsimp only
  rw [hmon]

theorem enterFresh_warm_write (hl : ch.lvl ≠ .write) (r : BurstRecord) :
    (ch.enterFresh now .warm r).place now .write (servedLevel .write r) (ch.enterFresh now .warm r).heldTrim =
      ch.enterFresh now .write r :=
  place_warm_write (by simpa using hl) r _

theorem handOver_warm_write (hl : ch.lvl ≠ .write) (old r : BurstRecord) :
    (ch.handOver now .warm old r).place now .write (servedLevel .write r) (ch.handOver now .warm old r).heldTrim =
      ch.handOver now .write old r := by
  unfold Channel.handOver
  split
  · exact enterFresh_warm_write hl r
  · exact place_warm_write hl r _

theorem handOver_plan (old r : BurstRecord) (ch : Channel) : (ch.handOver now p old r).plan = p := by
  unfold Channel.handOver
  split <;> rfl

/-! ## Write starts and ends, with the mark last -/

theorem takeWriteStart_eq (r : BurstRecord) (ch : Channel) : ch.takeWriteStart now r =
    if r.served then
      if ch.sg then (ch.updRecord r.rise startMark).truncate now .servo r
      else (ch.updRecord r.rise startMark).startWriting now r
    else ch.updRecord r.rise startMark := rfl

section
variable (hs : r.served = true) (hg : ch.sg = false)
include hs hg

/-- The write start of the front record in WARM (R35). -/
theorem takeWriteStart_warm (hp : ch.plan = .warm) (hf : r.isThe ch.front = true) : ch.takeWriteStart now r =
    (ch.place now .write (servedLevel .write r) ch.heldTrim).updRecord r.rise startMark := by
  have hthe : r.isThe (ch.updRecord r.rise startMark).front = true := by
    rwa [isThe_updRecord_front startMark_outcome startMark_rise]
  rw [takeWriteStart_eq, if_pos hs, if_neg (by rw [hg]; decide), Channel.startWriting]
  exact if_pos ⟨hp, hthe⟩

/-- The write start of the front record in LEAD (R36). -/
theorem takeWriteStart_lead (hp : ch.plan = .lead) (hf : ch.front = some r) :
    ch.takeWriteStart now r = (ch.enterFresh now .write r).updRecord r.rise startMark := by
  have hthe : r.isThe (ch.updRecord r.rise startMark).front = true :=
    isThe_front_updRecord startMark_outcome startMark_rise hf
  have hplan : (ch.updRecord r.rise startMark).plan = .lead := hp
  rw [takeWriteStart_eq, if_pos hs, if_neg (by rw [hg]; decide), Channel.startWriting,
    if_neg (by rw [hplan]; nofun), if_pos ⟨hplan, hthe⟩, updRecord_enterFresh]

/-- The write start of the next record in FADE (R36). -/
theorem takeWriteStart_fade (hp : ch.plan = .fade) (hf : ch.front = some old) (hn : ch.nextUp = some r)
    (hne : old.rise ≠ r.rise) :
    ch.takeWriteStart now r = ((ch.leave old).handOver now .write old r).updRecord r.rise startMark := by
  have hthe : r.isThe (ch.updRecord r.rise startMark).nextUp = true :=
    isThe_nextUp_updRecord startMark_outcome startMark_rise hn
  have hold : (ch.updRecord r.rise startMark).front = some old := by
    rw [front_updRecord startMark_outcome, hf, Option.map_some, if_neg hne]
  have hplan : (ch.updRecord r.rise startMark).plan = .fade := hp
  rw [takeWriteStart_eq, if_pos hs, if_neg (by rw [hg]; decide), Channel.startWriting,
    if_neg (by rw [hplan]; nofun), if_neg (by rw [hplan]; nofun), if_pos ⟨hplan, hthe⟩, hold]
  dsimp only
  rw [updRecord_leave startMark_outcome startMark_rise, updRecord_handOver]

end

/-- A way from LEAD or FADE into service of `r`: `e p` is the channel that enters `p`, WARM at the warm start of `r` or
WRITE at its write start, before the expiry is marked (R33, R34, R36). -/
structure EntersService (now : Nat) (r : BurstRecord) (ch : Channel) (e : PlanState → Channel) : Prop where
  warmStart : ch.takeWarmStart now r = (e .warm).updRecord r.rise warmMark
  writeStart : ch.takeWriteStart now r = (e .write).updRecord r.rise startMark
  plan : ∀ p, (e p).plan = p
  sg : ∀ p, (e p).sg = false
  front : ∀ p, (e p).front = some r
  recordAt : ∀ p, (e p).recordAt r.rise = some r
  /-- WARM and then WRITE is WRITE. -/
  onward : (e .warm).place now .write (servedLevel .write r) (e .warm).heldTrim = e .write

/-- The way from LEAD, with a fresh set (R33, R36). -/
theorem entersService_lead (h : ch.PlanLaw) (hs : r.served = true) (hrec : ch.recordAt r.rise = some r)
    (hp : ch.plan = .lead) (hf : ch.front = some r) :
    EntersService now r ch fun p => ch.enterFresh now p r := by
  have hserving : ch.plan.serving = true := by rw [hp]; rfl
  have hg : ch.sg = false := h.servo hserving
  have hl : ch.lvl ≠ .write := by
    obtain ⟨x, -, hl, -⟩ := h.served hserving
    rw [hl, hp]
    nofun
  exact {
    warmStart := by rw [takeWarmStart_lead hs hp hf, updRecord_enterFresh]
    writeStart := takeWriteStart_lead hs hg hp hf
    plan := fun _ => rfl
    sg := fun _ => by rw [← hg]; simp
    front := fun _ => (front_congr (by simp)).trans hf
    recordAt := fun _ => (recordAt_congr (by simp) _).trans hrec
    onward := enterFresh_warm_write hl r }

/-- The way from FADE for an older record, by the hand-over (R34, R36). -/
theorem entersService_fade (h : ch.PlanLaw) (hd : ch.RisesDistinct) (hrec : ch.recordAt r.rise = some r)
    (hp : ch.plan = .fade) (hf : ch.front = some old) (hn : ch.nextUp = some r) :
    EntersService now r ch fun p => (ch.leave old).handOver now p old r := by
  have hs := nextUp_served hn
  have hne := front_rise_ne_nextUp hd hf hn
  have hserving : ch.plan.serving = true := by rw [hp]; rfl
  have hg : ch.sg = false := h.servo hserving
  have hl : (ch.leave old).lvl ≠ .write := by
    obtain ⟨x, -, hl, -⟩ := h.served hserving
    rw [show (ch.leave old).lvl = ch.lvl by simp, hl]
    exact servedLevel_ne_write (by rw [hp]; decide) x
  exact {
    warmStart := by
      rw [takeWarmStart_fade hs hp hf hn hne, updRecord_leave warmMark_outcome warmMark_rise,
        updRecord_handOver]
    writeStart := takeWriteStart_fade hs hg hp hf hn hne
    plan := fun _ => handOver_plan old r _
    sg := fun _ => by rw [← hg]; simp
    front := fun _ => (front_congr (by simp)).trans ((front_leave hd hf).trans hn)
    recordAt := fun _ => (recordAt_congr (by simp) _).trans ((recordAt_leave hne).trans hrec)
    onward := handOver_warm_write hl old r }

/-- The write start after the warm start. -/
theorem EntersService.takeWriteStart {e : PlanState → Channel} (he : EntersService now r ch e) (hs : r.served = true) :
    ((e .warm).updRecord r.rise warmMark).takeWriteStart now (warmMark r) =
      (e .write).updRecord r.rise (startMark ∘ warmMark) := by
  have hthe : (warmMark r).isThe ((e .warm).updRecord r.rise warmMark).front = true := by
    rw [isThe_updRecord_front warmMark_outcome warmMark_rise, he.front]
    exact beq_self_eq_true r.rise
  have hplace : ((e .warm).updRecord r.rise warmMark).place now .write (servedLevel .write (warmMark r))
      (e .warm).heldTrim = (e .write).updRecord r.rise warmMark := by
    rw [← he.onward]
    rfl
  have hsv : (warmMark r).served = true := hs
  rw [takeWriteStart_warm (ch := (e .warm).updRecord r.rise warmMark) hsv (he.sg .warm) (he.plan .warm) hthe]
  exact (congrArg (updRecord r.rise startMark) hplace).trans (updRecord_updRecord fun _ => rfl)

/-- The warm start after the write start. -/
theorem EntersService.takeWarmStart {e : PlanState → Channel} (he : EntersService now r ch e) :
    ((e .write).updRecord r.rise startMark).takeWarmStart now (startMark r) =
      (e .write).updRecord r.rise (startMark ∘ warmMark) := by
  have hplan : ((e .write).updRecord r.rise startMark).plan = .write := he.plan .write
  rw [takeWarmStart_elsewhere (by rw [hplan]; decide)]
  exact updRecord_updRecord fun _ => rfl

/-! ## The hand-over to the next record (R34, R37, R38) -/

/-- The channel after the served record `r` has left and WARM has been handed over to the next record `n`. -/
def handedOver (now : Nat) (r n : BurstRecord) (ch : Channel) : Channel := (ch.leave r).handOver now .warm r n

theorem handedOver_plan (r n : BurstRecord) (ch : Channel) : (ch.handedOver now r n).plan = .warm := handOver_plan r n _

theorem handedOver_recordAt (r n : BurstRecord) (rise : Nat) (ch : Channel) :
    (ch.handedOver now r n).recordAt rise = (ch.leave r).recordAt rise := recordAt_congr (by simp [handedOver]) rise

section
variable {n : BurstRecord} (hd : ch.RisesDistinct) (hf : ch.front = some r) (hn : ch.nextUp = some n)
include hd hf hn

theorem handedOver_front : (ch.handedOver now r n).front = some n :=
  (front_congr (by simp [handedOver])).trans ((front_leave hd hf).trans hn)

theorem handedOver_marked_front :
    ((ch.handedOver now r n).updRecord n.rise warmMark).front.map (·.rise) = some n.rise := by
  rw [front_updRecord warmMark_outcome, handedOver_front hd hf hn, Option.map_some, if_pos rfl]
  rfl

/-- In FADE the next record's warm start hands over (R34). -/
theorem takeWarmStart_next (hp : ch.plan = .fade) :
    ch.takeWarmStart now n = (ch.handedOver now r n).updRecord n.rise warmMark := by
  rw [takeWarmStart_fade (nextUp_served hn) hp hf hn (front_rise_ne_nextUp hd hf hn),
    updRecord_leave warmMark_outcome warmMark_rise, updRecord_handOver, handedOver]

variable (hc : hasCome now (n.warmStart delay) = true)
include hc

/-- So does the tail end of the record faded, once the next warm start has come (R38). -/
theorem placeAfter_next : (ch.leave r).placeAfter now delay r = ch.handedOver now r n :=
  (placeAfter_eq r (ch.leave r)).2.1 n ((front_leave hd hf).trans hn) hc

/-- So does the write end of the record written (R37). -/
theorem takeWriteEnd_next (hp : ch.plan = .write) : ch.takeWriteEnd now delay r = ch.handedOver now r n := by
  rw [takeWriteEnd_writing (front_served hf) hp hf, hn, Option.any_some, hc, Bool.true_or, if_pos rfl,
    placeAfter_next hd hf hn hc]

/-- A write end after the next record's warm start, which in WRITE has only been marked. -/
theorem takeWriteEnd_marked (hp : ch.plan = .write) : (ch.updRecord n.rise warmMark).takeWriteEnd now delay r =
    (ch.handedOver now r n).updRecord n.rise warmMark := by
  have hne := front_rise_ne_nextUp hd hf hn
  have hd' : (ch.updRecord n.rise warmMark).RisesDistinct := by
    rw [RisesDistinct, updRecord_rises ch warmMark_rise]
    exact hd
  have hf' : (ch.updRecord n.rise warmMark).front = some r := by
    rw [front_updRecord warmMark_outcome, hf, Option.map_some, if_neg hne]
  have hn' : (ch.updRecord n.rise warmMark).nextUp = some (warmMark n) := by
    rw [nextUp_updRecord warmMark_outcome, hn, Option.map_some, if_pos rfl]
  have hhand : (ch.updRecord n.rise warmMark).handedOver now r (warmMark n) =
      ((ch.updRecord n.rise warmMark).leave r).handOver now .warm r n := rfl
  rw [takeWriteEnd_next hd' hf' hn' hc hp, hhand, updRecord_leave warmMark_outcome warmMark_rise, updRecord_handOver,
    handedOver]

end

end Channel

/-! ## One expiry after another, as commands -/

section
variable {c : Chan} {s : State} {x y : Channel} {r : BurstRecord} (hr : s.phase = .running)
  (hrec : x.recordAt r.rise = some r)
include hr hrec

theorem exec_warmStart_after {l : Nat} (hl : r.lead = some l) (ht : r.warmTaken = false)
    (hd : r.rise + s.delay c - l ≤ s.now) (hy : x.takeWarmStart s.now r = y) :
    exec (.warmStart c r.rise) (s.upd c fun _ => x) = .next (s.upd c fun _ => y) := by
  subst hy
  rw [exec_warmStart (State.upd_ch ..) hrec (by simpa using hr) hl ht (by simpa using hd), State.upd_upd]
  simp only [State.upd_rest]

theorem exec_writeStart_after (ht : r.startTaken = false) (hd : r.rise + s.delay c ≤ s.now)
    (hy : x.takeWriteStart s.now r = y) :
    exec (.writeStart c r.rise) (s.upd c fun _ => x) = .next (s.upd c fun _ => y) := by
  subst hy
  rw [exec_writeStart (State.upd_ch ..) hrec (by simpa using hr) ht (by simpa using hd), State.upd_upd]
  simp only [State.upd_rest]

theorem exec_writeEnd_after {f : Nat} (hf : r.fall = some f) (ht : r.endTaken = false) (hd : f + s.delay c ≤ s.now)
    (hy : x.takeWriteEnd s.now (s.delay c) r = y) :
    exec (.writeEnd c r.rise) (s.upd c fun _ => x) = .next (s.upd c fun _ => y) := by
  subst hy
  rw [exec_writeEnd (State.upd_ch ..) hrec (by simpa using hr) hf ht (by simpa using hd), State.upd_upd]
  simp only [State.upd_rest, State.upd_delay]

end

/-- Settles O34: in either order the plan enters WRITE by the one way into service, and both expiries are marked. -/
theorem warmAndWriteStartCommute : Obligations.WarmAndWriteStartCommute := by
  intro c s ch r hs hr hnodup hrec hsv hl hwt hst hd hlaw hcase
  have hent : ∃ e, Channel.EntersService s.now r ch e := by
    rcases hcase with ⟨hp, hf⟩ | ⟨hp, hn⟩
    · exact ⟨_, Channel.entersService_lead hlaw hsv hrec hp hf⟩
    · obtain ⟨old, hf, -⟩ := hlaw.served (by rw [hp]; rfl)
      exact ⟨_, Channel.entersService_fade hlaw hnodup hrec hp hf hn⟩
  obtain ⟨e, he⟩ := hent
  have hwarm : r.rise + s.delay c - 0 ≤ s.now := hd
  have hmarked {f : BurstRecord → BurstRecord} (hf : ∀ x, (f x).rise = x.rise) (p : PlanState) :
      ((e p).updRecord r.rise f).recordAt r.rise = some (f r) := by
    rw [Channel.recordAt_updRecord hf, he.recordAt, Option.map_some, if_pos rfl]
  refine ⟨_, _, s.upd c fun _ => (e .write).updRecord r.rise (Channel.startMark ∘ Channel.warmMark),
    exec_warmStart hs hrec hr hl hwt hwarm, ?_, exec_writeStart hs hrec hr hst hd, ?_, ?_, ?_⟩
  · rw [he.warmStart]
    exact exec_writeStart_after (r := Channel.warmMark r) hr (hmarked Channel.warmMark_rise _) hst hd
      (he.takeWriteStart hsv)
  · rw [he.writeStart]
    exact exec_warmStart_after (r := Channel.startMark r) hr (hmarked Channel.startMark_rise _) hl hwt hwarm
      he.takeWarmStart
  · rw [State.upd_ch]
    exact he.plan .write
  · rw [State.upd_ch, Channel.front_updRecord (f := Channel.startMark ∘ Channel.warmMark) fun _ => rfl, he.front,
      Option.map_some, if_pos rfl]
    rfl

/-- Settles O35: in either order the served record leaves, the plan is handed over to WARM for the next record, and the
warm start of that record is marked. -/
theorem nextWarmStartCommutesWithTheEnd : Obligations.NextWarmStartCommutesWithTheEnd := by
  intro c s ch r n l hs hr hd hf hn hl hwt hdue
  have hne := Channel.front_rise_ne_nextUp hd hf hn
  have hrecr : ch.recordAt r.rise = some r := Channel.recordAt_of_mem hd (Channel.front_mem hf)
  have hrecn : ch.recordAt n.rise = some n := Channel.recordAt_of_mem hd (Channel.nextUp_mem hn)
  have hcome := (hasCome_warmStart hl).2 hdue
  have hend : ∃ u : State, u = s.upd c (fun _ => (ch.handedOver s.now r n).updRecord n.rise Channel.warmMark) ∧
      (u.ch c).plan = .warm ∧ (u.ch c).front.map (·.rise) = some n.rise := by
    refine ⟨_, rfl, ?_⟩
    rw [State.upd_ch]
    exact ⟨ch.handedOver_plan r n, Channel.handedOver_marked_front hd hf hn⟩
  obtain ⟨u, hu, hplan, hfront⟩ := hend
  have hstart := exec_warmStart hs hrecn hr hl hwt hdue
  have hlate : exec (.warmStart c n.rise) (s.upd c fun _ => ch.handedOver s.now r n) = .next u := by
    subst hu
    have hrec := (ch.handedOver_recordAt (now := s.now) r n n.rise).trans ((Channel.recordAt_leave hne).trans hrecn)
    have hplan := ch.handedOver_plan (now := s.now) r n
    exact exec_warmStart_after hr hrec hl hwt hdue (Channel.takeWarmStart_elsewhere (by rw [hplan]; decide))
  refine ⟨fun f hp hfall htaken hfd => ?_, fun t hp htail htd => ?_⟩
  · have hmarked : (ch.updRecord n.rise Channel.warmMark).recordAt r.rise = some r := by
      rw [Channel.recordAt_updRecord Channel.warmMark_rise, hrecr, Option.map_some, if_neg hne]
    have hwriteEnd := exec_writeEnd hs hrecr hr hfall htaken hfd
    rw [Channel.takeWriteEnd_next hd hf hn hcome hp] at hwriteEnd
    rw [Channel.takeWarmStart_elsewhere (by rw [hp]; decide)] at hstart
    have hthen := exec_writeEnd_after hr hmarked hfall htaken hfd (Channel.takeWriteEnd_marked hd hf hn hcome hp)
    exact ⟨_, _, u, hstart, hu ▸ hthen, hwriteEnd, hlate, hplan, hfront⟩
  · have hgone : ((ch.handedOver s.now r n).updRecord n.rise Channel.warmMark).recordAt r.rise = none := by
      rw [Channel.recordAt_updRecord Channel.warmMark_rise, Channel.handedOver_recordAt, Channel.recordAt_leave_self]
      rfl
    have htailEnd := exec_tailEnd hs hrecr hr htail hp hf htd
    rw [Channel.placeAfter_next hd hf hn hcome] at htailEnd
    rw [Channel.takeWarmStart_next hd hf hn hp, ← hu] at hstart
    have hthen : exec (.tailEnd c r.rise) u = .next u := exec_tailEnd_gone (by rw [hu, State.upd_ch]; exact hgone)
    exact ⟨_, _, u, hstart, hthen, htailEnd, hlate, hplan, hfront⟩

end Sys2Proof.Machine
end

section
/-! SUPPORT. The Heat Model written out: the heat tick, the cooling of an idle head, the energised head, and the
effective reference (R60 to R70). -/

namespace Sys2Proof.Machine

/-! ## The heat tick (R60, R61, R63 to R65, R67) -/

/-- Only WARM and WRITE have a drift update (R67). -/
theorem Channel.drift_elsewhere {ch : Channel} (hp : ch.plan ∉ [.warm, .write]) : ch.drift = ch :=
  if_neg (by simpa using hp)

theorem exec_heatTick {c : Chan} {s : State} {ch : Channel} (hs : s.ch c = ch) (hr : s.phase = .running)
    (hd : ch.nextTick ≤ s.now) : exec (.heatTick c) s = .next (s.upd c fun _ => (ch.ticked s.now).drift) := by
  subst hs
  exact next_of_taken rfl hr (decide_eq_true hd)

theorem exec_heatTick_early {c : Chan} {s : State} {ch : Channel} (hs : s.ch c = ch) (hd : s.now < ch.nextTick) :
    exec (.heatTick c) s = .next s := by
  subst hs
  exact next_of_not_taken (decide_eq_false (Nat.not_le.2 hd))

/-- Settles O36: the channel the statement writes out is `Channel.ticked`, and the drift update acts on it only in WARM
and WRITE. -/
theorem heatTick : Obligations.HeatTick := by
  intro c s ch hs hr heated ticked
  have hticked : ch.ticked s.now = ticked := rfl
  refine ⟨exec_heatTick_early hs, fun hd => ⟨fun hp => ?_, fun _ => exec_heatTick hs hr hd⟩⟩
  rw [exec_heatTick hs hr hd, hticked, Channel.drift_elsewhere (ch := ticked) hp]

/-! ## Cooling (R66) -/

theorem decay_pos {heat d : Nat} (hh : 0 < heat) (hd : 0 < d) : 1 ≤ decay heat d := by
  unfold decay
  split
  · exact Nat.le_refl 1
  · next hn => exact Nat.one_le_iff_ne_zero.2 fun hq => hn ⟨hh, hd, hq⟩

/-- Without accumulation a tick only takes the decay off (R65). -/
theorem heatAfter_of_no_accumulation {heat d e g : Nat} (ha : accumulation e g = 0) :
    heatAfter heat d e g = min 65535 (heat - decay heat d) := by
  rw [heatAfter, ha, Nat.add_zero]

namespace Head

variable {f : ChannelFields} {h : Head}

/-- A head that has collected nothing accumulates nothing (R63 to R65). -/
theorem accumulation_of_idle (ht : h.tally = {}) (g : Nat) : accumulation (energy f h.tally) g = 0 := by
  simp [ht, energy, accumulation]

theorem tick_heat (ha : accumulation (energy f h.tally) (byteValue h.cal.g) = 0) :
    (h.tick f).heat = min 65535 (h.heat - decay h.heat (byteValue h.cal.d)) := heatAfter_of_no_accumulation ha

theorem tick_heat_lt (hh : 0 < h.heat) (hd : 0 < byteValue h.cal.d)
    (ha : accumulation (energy f h.tally) (byteValue h.cal.g) = 0) : (h.tick f).heat < h.heat := by
  have hdecay := decay_pos hh hd
  rw [tick_heat ha]
  omega

/-- Idle ticks keep the head idle, so each takes at least 1 off its heat till that is 0. -/
theorem iterate_tick_heat (n : Nat) (hd : 0 < byteValue h.cal.d) (ht : h.tally = {}) (hn : h.heat ≤ n) :
    ((Head.tick f)^[n] h).heat = 0 := by
  induction n generalizing h with
  | zero => exact Nat.le_zero.1 hn
  | succ n ih =>
    have ha := accumulation_of_idle (f := f) ht (byteValue h.cal.g)
    have hle : (h.tick f).heat ≤ n := by
      rcases Nat.eq_zero_or_pos h.heat with h0 | hpos
      · rw [tick_heat ha, h0]; omega
      · exact Nat.le_of_lt_succ ((tick_heat_lt hpos hd ha).trans_le hn)
    exact ih (h := h.tick f) hd rfl hle

end Head

/-- Settles O38: the decay is at least 1, and an idle head only decays. -/
theorem idleHeadsCool : Obligations.IdleHeadsCool := by
  refine ⟨fun _ _ => decay_pos, fun f h hh hd ha => ⟨Head.tick_heat_lt hh hd ha, ?_⟩,
    fun _ _ n hd ht => Head.iterate_tick_heat n hd ht, fun heat _ => by omega⟩
  have hidle := Head.accumulation_of_idle (f := f) (h := { h with tally := {} }) rfl (byteValue h.cal.g)
  rw [Head.tick_heat ha, Head.tick_heat (h := { h with tally := {} }) hidle]

/-! ## The energised head (R62) -/

namespace Channel

variable {ch : Channel}

theorem energised_off (hl : ch.lvl = .off) : ch.energised = none := by
  rw [energised, hl]

/-- A served record's own head, whatever the level (R62). -/
theorem energised_serving (hl : ch.lvl ≠ .off) (hp : ch.plan ∈ [.warm, .write, .fade]) :
    ch.energised = ch.front.bind (·.head) := by
  simp only [List.mem_cons, List.not_mem_nil, or_false] at hp
  unfold energised
  cases hlvl : ch.lvl with
  | off => exact absurd hlvl hl
  | bias | warm | write => rcases hp with hp | hp | hp <;> rw [hp]

theorem energised_bias (hl : ch.lvl = .bias) (hp : ch.plan ∈ [.lead, .rest, .wedge]) :
    ch.energised = ch.shadowHead := by
  simp only [List.mem_cons, List.not_mem_nil, or_false] at hp
  unfold energised
  rw [hl]
  rcases hp with hp | hp | hp <;> rw [hp] <;> rfl

theorem shadowHead_eq_some_iff_lt {n : Nat} :
    ch.shadowHead = some n ↔ ∃ k, ch.port.headSel = some k ∧ k.toNat = n ∧ n < ch.heads.length := by
  rw [shadowHead_eq_some]
  constructor
  · rintro ⟨k, h, hk, hn, hh⟩
    exact ⟨k, hk, hn, (List.getElem?_eq_some_iff.1 hh).1⟩
  · rintro ⟨k, hk, hn, hlt⟩
    exact ⟨k, _, hk, hn, List.getElem?_eq_getElem hlt⟩

end Channel

/-- Settles O41: none at OFF, else the front record's head or the shadow's. -/
theorem energisedHead : Obligations.EnergisedHead := fun _ =>
  ⟨Channel.energised_off, Channel.energised_serving, fun hl hp _ => by
    rw [Channel.energised_bias hl hp, Channel.shadowHead_eq_some_iff_lt]⟩

/-! ## The effective reference (R69, R70) -/

theorem clamp_of_mem {lo hi x : Int} (hl : lo ≤ x) (hu : x ≤ hi) : clamp lo hi x = x := by
  unfold clamp; omega

theorem clamp_of_lt {lo hi x : Int} (h : x < lo) : clamp lo hi x = lo := if_pos h

theorem clamp_of_gt {lo hi x : Int} (hb : lo ≤ hi) (h : hi < x) : clamp lo hi x = hi := by
  unfold clamp; omega

theorem Channel.ambientNow_of_unset {ch : Channel} (h : ch.ambientSet = false) : ch.ambientNow = ch.set.a0.toNat := by
  rw [ambientNow, h]; rfl

/-- Before the first reading the correction is 0, and an H_ref needs no clamp (R69, R70). -/
theorem Channel.effectiveReference_of_unset {ch : Channel} (h : ch.ambientSet = false) (n : Option Nat) :
    ch.effectiveReference n = ((ch.entry n).href.getD 0).toNat := by
  have hlt := ((ch.entry n).href.getD 0).isLt
  rw [effectiveReference, ambientNow_of_unset h, sub_self, zero_mul, add_zero]
  exact clamp_of_mem (by omega) (by omega)

/-- Settles O19: the statement's sum is the one that is clamped. -/
theorem effectiveReferenceOfAHead : Obligations.EffectiveReferenceOfAHead := by
  intro h ch a href sum
  have ha : (ch.ambientNow : Int) = a := apply_ite ..
  have heff : ch.effectiveReference h = clamp 0 65535 sum := by rw [Channel.effectiveReference, ha]
  have hb := Channel.clamp_bounds (lo := 0) (hi := 65535) (by decide) sum
  refine ⟨heff ▸ hb.1, heff ▸ hb.2, ?_, ?_, ?_, fun hs => Channel.effectiveReference_of_unset hs h⟩
  · rw [heff]; exact clamp_of_mem
  · rw [heff]; exact clamp_of_lt
  · rw [heff]; exact clamp_of_gt (by decide)

end Sys2Proof.Machine
end

section
/-! SUPPORT. What a completed read is delivered to, written out (R68, R134, R144, R166, R168). -/

namespace Sys2Proof.Machine

/-! ## The registers a read matches (R144) -/

section
variable {l : LoadedCopy} {page : Option Nibble} {addr : Addr}

theorem isTemperature_iff : isTemperature l page addr = true ↔ page = some l.tempPage ∧ addr = l.tempAddr := by
  simp [isTemperature]

theorem isSummary_iff : isSummary l page addr = true ↔ page = some l.pageJournal ∧ addr = 0x20 := by
  simp [isSummary]

theorem slotRead_isSome_iff : (slotRead l page addr).isSome = true ↔
    page = some l.pageJournal ∧ addr.toNat < 0x20 ∧ addr.toNat % 4 = 3 := by
  unfold slotRead
  split_ifs with h <;> simp [h]

/-- A doubly selected read is not decoded, and so stands under the last row (R134). -/
theorem readMatches_of_doubled : readMatches l page addr .doubled .other = true := rfl

variable {hold : ReadHold} (hd : hold ≠ .doubled)
include hd

theorem readMatches_temperature (h : page = some l.tempPage ∧ addr = l.tempAddr) :
    readMatches l page addr hold .temperature = true :=
  Bool.and_eq_true_iff.2 ⟨bne_iff_ne.2 hd, isTemperature_iff.2 h⟩

theorem readMatches_journalSlot (h : page = some l.pageJournal ∧ addr.toNat < 0x20 ∧ addr.toNat % 4 = 3) :
    readMatches l page addr hold .journalSlot = true :=
  Bool.and_eq_true_iff.2 ⟨bne_iff_ne.2 hd, slotRead_isSome_iff.2 h⟩

theorem readMatches_summary (h : page = some l.pageJournal ∧ addr = 0x20) :
    readMatches l page addr hold .summary = true :=
  Bool.and_eq_true_iff.2 ⟨bne_iff_ne.2 hd, isSummary_iff.2 h⟩

end

/-- A read that matches no register of the part (R144). -/
theorem readMatches_other {l : LoadedCopy} {page : Option Nibble} {addr : Addr} (hold : ReadHold)
    (ht : ¬ (page = some l.tempPage ∧ addr = l.tempAddr))
    (hs : ¬ (page = some l.pageJournal ∧ addr.toNat < 0x20 ∧ addr.toNat % 4 = 3))
    (hm : ¬ (page = some l.pageJournal ∧ addr = 0x20)) : readMatches l page addr hold .other = true := by
  rw [← isTemperature_iff, Bool.not_eq_true] at ht
  rw [← slotRead_isSome_iff, Bool.not_eq_true] at hs
  rw [← isSummary_iff, Bool.not_eq_true] at hm
  rw [readMatches, ht, hs, hm]
  exact Bool.or_true _

/-! ## What each block does with the byte (R68, R166, R168) -/

theorem Journal.freeSlot_eq (n : BitVec 3) (j : Journal) : j.freeSlot n =
    { j with slots := if j.slots[n.toNat]? = some .occupied then j.slots.set n.toNat .free else j.slots } := by
  have hocc : j.slots.getD n.toNat .free = .occupied ↔ j.slots[n.toNat]? = some .occupied := by
    rw [List.getD_eq_getElem?_getD]
    cases j.slots[n.toNat]? <;> simp
  unfold Journal.freeSlot
  simp only [hocc]
  split_ifs <;> rfl

namespace Channel

variable {l : LoadedCopy} {addr : Addr} {byte : Byte} {ch : Channel}

theorem deliverTemperature_eq : ch.deliverTemperature l addr byte =
    { ch with
      ambient := if ch.port.page = some l.tempPage ∧ addr = l.tempAddr then byte else ch.ambient
      ambientSet := if ch.port.page = some l.tempPage ∧ addr = l.tempAddr then true else ch.ambientSet } := by
  unfold deliverTemperature
  simp only [isTemperature_iff]
  split_ifs <;> rfl

theorem deliverSlot_eq : ch.deliverSlot l addr =
    { ch with
      jnl := { ch.jnl with
        slots :=
          if (ch.port.page = some l.pageJournal ∧ addr.toNat < 0x20 ∧ addr.toNat % 4 = 3) ∧
              ch.jnl.slots[addr.toNat / 4]? = some .occupied then
            ch.jnl.slots.set (addr.toNat / 4) .free
          else ch.jnl.slots } } := by
  unfold deliverSlot slotRead
  by_cases hslot : ch.port.page = some l.pageJournal ∧ addr.toNat < 0x20 ∧ addr.toNat % 4 = 3
  · have hn : (BitVec.ofNat 3 (addr.toNat / 4)).toNat = addr.toNat / 4 := by
      have hlt : addr.toNat < 0x20 := hslot.2.1
      rw [BitVec.toNat_ofNat]
      omega
    rw [if_pos hslot]
    simp only [Journal.freeSlot_eq, hn, hslot, true_and]
  · rw [if_neg hslot]
    simp only [hslot, false_and, if_false]

theorem deliverSummary_eq : ch.deliverSummary l addr byte =
    { ch with
      jnl := { ch.jnl with
        dropped :=
          if (ch.port.page = some l.pageJournal ∧ addr = 0x20) ∧ byte.getLsbD 4 = true then false
          else ch.jnl.dropped } } := by
  unfold deliverSummary
  simp only [Bool.and_eq_true, isSummary_iff]
  split_ifs <;> rfl

end Channel

/-! ## Completed reads -/

/-- The byte goes to SDO while the frame still waits for it (R134). -/
theorem receptionAfterRead_eq (c : Chan) (byte : Byte) (r : Reception) :
    receptionAfterRead c byte r = if r = .reading c then .delivering c byte else r := by
  cases r <;> simp [receptionAfterRead]

theorem exec_read {c : Chan} {s : State} {ch : Channel} {addr : Addr} {hold : ReadHold} {k : ReadKind} {byte : Byte}
    (hs : s.ch c = ch) (hr : s.readCompletes c addr hold)
    (hk : readMatches s.loaded ch.port.page addr hold k = true) :
    exec (k.command c byte) s = .next { s.delivered c (fun _ => readEffect s.loaded addr hold byte ch) with
      reception := if s.reception = .reading c then .delivering c byte else s.reception } := by
  subst hs
  rw [exec_readCommand, State.completeRead_of hr hk, receptionAfterRead_eq, State.delivered_const]
  rfl

/-- Settles O50: whatever row a read is taken under, every block hears it by its own match, and a read that no block
matches leaves the channel as it is. -/
theorem relayedReads : Obligations.RelayedReads := by
  intro c s ch addr hold byte hs hr temperature slot summary left heard
  have hheard : ch.deliverRead s.loaded addr byte = heard := by
    rw [Channel.deliverRead, Channel.deliverSummary_eq, Channel.deliverSlot_eq, Channel.deliverTemperature_eq]
  have hrow (k : ReadKind) (hk : readMatches s.loaded ch.port.page addr hold k = true) :
      exec (k.command c byte) s = .next (left (readEffect s.loaded addr hold byte ch)) := exec_read hs hr hk
  refine ⟨fun hd => ?_, fun hd => ?_⟩
  · rw [show readEffect s.loaded addr hold byte ch = heard from (if_neg hd).trans hheard] at hrow
    refine ⟨fun ht => hrow .temperature (readMatches_temperature hd ht),
      fun hsl => hrow .journalSlot (readMatches_journalSlot hd hsl),
      fun hsu => hrow .summary (readMatches_summary hd hsu), fun ht hsl hsu => ?_⟩
    have hunheard : heard = ch := by
      simp only [heard, if_neg ht, hsl, hsu, false_and, if_false]
    rw [← hunheard]
    exact hrow .other (readMatches_other hold ht hsl hsu)
  · subst hd
    exact hrow .other readMatches_of_doubled

end Sys2Proof.Machine
end

section
/-! SUPPORT. The drift update of the held trim, written out (R67, R77, R80, R81). -/

namespace Sys2Proof.Machine

theorem clamp_eq_max_min {lo hi : Int} (h : lo ≤ hi) (x : Int) : clamp lo hi x = max lo (min hi x) := by
  unfold clamp; omega

namespace Channel

variable {ch : Channel} {r : BurstRecord}

/-- In WARM and WRITE the front record's trim drifts, and a raw trim out of range is reported (R67, R80, R81). -/
theorem drift_of_front (hp : ch.plan ∈ [.warm, .write]) (hf : ch.front = some r) :
    ch.drift = { ch.reportLimit r with heldTrim := ch.driftTrim r } := by
  rw [drift, if_pos (by simpa using hp), hf]

/-- The report of a trim computation: one TRIM_LIMIT for the bound that T_raw exceeds, if it exceeds one (R81). -/
theorem reportLimit_eq (r : BurstRecord) (ch : Channel) : ch.reportLimit r =
    { ch with
      jnl :=
        if r.upper < ch.rawTrim r.head then ch.jnl.post .trimLimit (headCode r.head) (if r.upper < 31 then 1 else 3)
        else if ch.rawTrim r.head < -32 then ch.jnl.post .trimLimit (headCode r.head) 2
        else ch.jnl } := by
  unfold reportLimit trimLimitDetail
  split_ifs <;> rfl

/-- The slew range, then the trim's range, as bounds on T_raw (R80). -/
theorem driftTrim_eq (hu : -32 ≤ r.upper) : ch.driftTrim r =
    max (-32) (min r.upper (max (ch.heldTrim - 4) (min (ch.heldTrim + 4) (ch.rawTrim r.head)))) := by
  rw [driftTrim, clamp_eq_max_min hu, clamp_eq_max_min (by omega)]

/-- The range holds the held trim already, so clamping to it after the slew takes the trim no further (R80). -/
theorem driftTrim_bounds (hl : -32 ≤ ch.heldTrim) (hu : ch.heldTrim ≤ r.upper) :
    ch.heldTrim - 4 ≤ ch.driftTrim r ∧ ch.driftTrim r ≤ ch.heldTrim + 4 ∧
      -32 ≤ ch.driftTrim r ∧ ch.driftTrim r ≤ r.upper := by
  rw [driftTrim_eq (hl.trans hu)]
  omega

end Channel

/-- Settles O37: the trim and the report written out, and the bounds of a slew that starts within the range. -/
theorem driftUpdate : Obligations.DriftUpdate := by
  intro ch r hp hf hk u raw hu hl
  rw [Channel.drift_of_front hp hf]
  refine ⟨?_, Channel.driftTrim_bounds hl hu⟩
  rw [Channel.reportLimit_eq, Channel.driftTrim_eq (Channel.upper_ge hk)]
  rfl

end Sys2Proof.Machine
end

section
/-! SUPPORT. What the two channels have of each other: a command of one channel, taken beside another partner, does the
same and leaves that partner alone (R91). -/

namespace Sys2Proof.Machine

/-! ## A part with the other channel exchanged -/

/-- The part with `x` in the place of the other channel of `c`. -/
def State.beside (c : Chan) (x : Channel) (s : State) : State := s.upd (otherChan c) fun _ => x

/-- An outcome with the other channel of `c` exchanged in its next state. -/
def outcomeBeside (c : Chan) (x : Channel) : Host.Outcome State Fault Refusal → Host.Outcome State Fault Refusal
  | .next t => .next (t.beside c x)
  | .fault r => .fault r
  | .refused r => .refused r

section
variable (c : Chan) (x : Channel) (s : State)

/-- The exchange keeps the channel itself and all that the channels share. -/
@[simp] theorem State.beside_fields :
    (s.beside c x).ch c = s.ch c ∧ (s.beside c x).now = s.now ∧ (s.beside c x).running = s.running ∧
    (s.beside c x).loaded = s.loaded ∧ (s.beside c x).slot = s.slot ∧ (s.beside c x).reception = s.reception ∧
    (s.beside c x).delay c = s.delay c := by
  cases c <;> exact ⟨rfl, rfl, rfl, rfl, rfl, rfl, rfl⟩

/-- Changes of the two channels commute. -/
@[simp] theorem State.beside_upd (f : Channel → Channel) : (s.beside c x).upd c f = (s.upd c f).beside c x := by
  cases c <;> rfl

@[simp] theorem State.beside_completeRelayed :
    (s.beside c x).completeRelayed c = (s.completeRelayed c).beside c x := by
  cases c <;> rfl

@[simp] theorem State.beside_choice : (s.beside c x).choice c = s.choice c := by simp [State.choice]

@[simp] theorem State.beside_insertedDue : (s.beside c x).insertedDue c = s.insertedDue c := by
  simp [State.insertedDue]

@[simp] theorem State.beside_relayedDue : (s.beside c x).relayedDue c = s.relayedDue c := by
  simp [State.relayedDue]

/-- The current available to a rise is all it reads of the other channel (R91). -/
theorem State.beside_avail (h : x.res = (s.ch (otherChan c)).res) : (s.beside c x).avail c = s.avail c := by
  have hx : (s.beside c x).ch (otherChan c) = x := State.upd_ch ..
  have hl : (s.beside c x).loaded = s.loaded := by simp
  rw [State.avail, State.avail, hx, hl, h]

/-! ## The completion of a relayed frame -/

theorem State.beside_completeWrite (k : WriteKind) (e : Addr → Byte → Channel → Channel) :
    (s.beside c x).completeWrite c k e = (s.completeWrite c k e).beside c x := by
  simp only [State.completeWrite, State.beside_relayedDue, State.beside_fields, State.beside_upd,
    State.beside_completeRelayed]
  split
  · split <;> rfl
  · rfl

theorem State.beside_completeRead (k : ReadKind) (byte : Byte) :
    (s.beside c x).completeRead c k byte = (s.completeRead c k byte).beside c x := by
  have heard (u : State) : { (u.beside c x).completeRelayed c with
        reception := receptionAfterRead c byte (u.beside c x).reception } =
      State.beside c x { u.completeRelayed c with reception := receptionAfterRead c byte u.reception } := by
    cases c <;> rfl
  simp only [State.completeRead, State.beside_relayedDue, State.beside_fields, State.beside_upd]
  split
  · split
    · split <;> exact heard _
    · rfl
  · rfl

/-! ## Commands -/

/-- A change of the channel under a condition. -/
theorem outcomeBeside_ite (p : Prop) [Decidable p] (f : Channel → Channel) :
    outcomeBeside c x (if p then .next (s.upd c f) else .next s) =
      if p then .next ((s.upd c f).beside c x) else .next (s.beside c x) := by
  split <;> rfl

theorem outcomeBeside_next : outcomeBeside c x (.next s) = .next (s.beside c x) := rfl

theorem exec_writeCommand_beside (k : WriteKind) :
    exec (k.command c) (s.beside c x) = outcomeBeside c x (exec (k.command c) s) := by
  rw [exec_writeCommand, exec_writeCommand, State.beside_completeWrite, outcomeBeside_next]
  simp

theorem exec_readCommand_beside (k : ReadKind) (byte : Byte) :
    exec (k.command c byte) (s.beside c x) = outcomeBeside c x (exec (k.command c byte) s) := by
  rw [exec_readCommand, exec_readCommand, State.beside_completeRead, outcomeBeside_next]

end

/-- A command does the same beside any other channel, for a rise beside any of the same reservation (R91). -/
theorem exec_beside {i : Instr} {c : Chan} (x : Channel) (s : State) (hc : i.channel = some c)
    (hres : i = .upstreamRise c → x.res = (s.ch (otherChan c)).res) :
    exec i (s.beside c x) = outcomeBeside c x (exec i s) := by
  have write (k : WriteKind) := exec_writeCommand_beside c x s k
  have read (k : ReadKind) (byte : Byte) := exec_readCommand_beside c x s k byte
  cases i <;> cases hc
  case upstreamRise.refl =>
    simp only [exec, execUpstreamRise, State.beside_fields, State.beside_upd, State.beside_avail c x s (hres rfl),
      outcomeBeside_ite]
  case upstreamFall.refl | rawGateReturnLow.refl | servoRise.refl | servoFall.refl | heatTick.refl
      | monitorSample.refl =>
    simp only [exec, execUpstreamFall, execRawGateReturnLow, execServoRise, execServoFall, execHeatTick,
      execMonitorSample, State.beside_fields, State.beside_upd, outcomeBeside_ite]
  -- an expiry or a cut finds its record in the channel's own queue
  case warmStart.refl | writeStart.refl | writeEnd.refl | tailEnd.refl | stallCut.refl =>
    simp only [exec, execWarmStart, execWriteStart, execWriteEnd, execTailEnd, execStallCut, State.beside_fields]
    split <;> simp only [State.beside_upd, outcomeBeside_ite, outcomeBeside_next]
  -- a grant follows the arbiter's choice for the channel's own port
  case relayedFrameGrant.refl | learningSequenceGrant.refl | upkeepSequenceGrant.refl | recordSequenceGrant.refl
      | summarySequenceGrant.refl =>
    simp only [exec, execRelayedFrameGrant, execLearningSequenceGrant, execUpkeepSequenceGrant,
      execRecordSequenceGrant, execSummarySequenceGrant, State.beside_choice, State.beside_fields, State.beside_upd,
      outcomeBeside_ite]
  -- an inserted frame completes on the channel's own port
  case learningReadComplete.refl | insertedPageSelectComplete.refl | upkeepWriteComplete.refl
      | journalWriteComplete.refl =>
    simp only [exec, execLearningReadComplete, execInsertedPageSelectComplete, execUpkeepWriteComplete,
      execJournalWriteComplete, State.beside_insertedDue, State.beside_fields, State.beside_upd]
    split <;> simp only [outcomeBeside_ite, outcomeBeside_next]
  case faultClear.refl => exact write .faultClear
  case channelRestart.refl => exact write .channelRestart
  case modeWriteHalt.refl => exact write .modeHalt
  case modeWriteNormal.refl => exact write .modeNormal
  case modeWriteShadow.refl => exact write .modeShadow
  case injectWrite.refl => exact write .inject
  case bandSelectWrite.refl => exact write .bandSelect
  case headFieldWrite.refl => exact write .headField
  case lowByteWrite.refl => exact write .lowByte
  case highByteWrite.refl => exact write .highByte
  case heatSettingWrite.refl => exact write .heatSetting
  case monitorRegisterWrite.refl => exact write .monitorRegister
  case stallLimitWrite.refl => exact write .stallLimit
  case wedgeLevelWrite.refl => exact write .wedgeLevel
  case pageSelectWrite.refl => exact write .pageSelect
  case headSelectWrite.refl => exact write .headSelect
  case levelRegisterWrite.refl => exact write .levelRegister
  case preamplifierReset.refl => exact write .preampReset
  case relayedWrite.refl => exact write .other
  case temperatureRead.refl byte => exact read .temperature byte
  case journalSlotRead.refl byte => exact read .journalSlot byte
  case summaryRead.refl byte => exact read .summary byte
  case relayedRead.refl byte => exact read .other byte

/-- Settles O7: a command reads its own channel and what the channels share, and a rise the other reservation. -/
theorem channelsMeetOnlyInHeadroom : Obligations.ChannelsMeetOnlyInHeadroom := by
  intro i c s t x hc hres h
  have hb := exec_beside x s hc hres
  rw [h] at hb
  exact hb

end Sys2Proof.Machine
end

section
/-! SUPPORT. What every command of a channel does to the reservation, whatever the queue it finds: an accepted rise
books, and every other act only releases (R92, R93). -/

namespace Sys2Proof.Machine

/-! ## The ceilings that the reservation answers for -/

/-- The ceilings of the live ACCEPTED records of a queue, oldest first (R92). -/
def bookedCeilings (q : List BurstRecord) : List (Option Int) := (q.filter (·.isAccepted)).map (·.ceiling)

theorem mem_bookedCeilings {q : List BurstRecord} {k : Option Int} :
    k ∈ bookedCeilings q ↔ ∃ r ∈ q, r.isAccepted = true ∧ r.ceiling = k := by
  simp [bookedCeilings, and_assoc]

theorem bookedCeilings_eq_nil {q : List BurstRecord} : bookedCeilings q = [] ↔ q.any (·.isAccepted) = false := by
  simp [bookedCeilings, List.filter_eq_nil_iff]

theorem bookedCeilings_cons (r : BurstRecord) (q : List BurstRecord) :
    bookedCeilings (r :: q) = (if r.isAccepted then [r.ceiling] else []) ++ bookedCeilings q := by
  unfold bookedCeilings
  rw [List.filter_cons]
  split <;> rfl

theorem bookedCeilings_append (q q' : List BurstRecord) :
    bookedCeilings (q ++ q') = bookedCeilings q ++ bookedCeilings q' := by
  simp [bookedCeilings]

/-- Falls, stall timers and marks are no part of what is booked. -/
theorem bookedCeilings_map {g : BurstRecord → BurstRecord}
    (hg : ∀ r, (g r).outcome = r.outcome ∧ (g r).ceiling = r.ceiling) (q : List BurstRecord) :
    bookedCeilings (q.map g) = bookedCeilings q := by
  induction q with
  | nil => rfl
  | cons r q ih =>
    obtain ⟨ho, hc⟩ := hg r
    rw [List.map_cons, bookedCeilings_cons, bookedCeilings_cons, ih, hc, BurstRecord.isAccepted_congr ho]

theorem bookedCeilings_setNewestFall (now : Nat) (q : List BurstRecord) :
    bookedCeilings (setNewestFall now q) = bookedCeilings q := by
  induction q with
  | nil => rfl
  | cons r q ih =>
    cases q with
    | nil => exact bookedCeilings_map (g := (·.setFall now)) (fun _ => ⟨rfl, rfl⟩) [r]
    | cons x q =>
      show bookedCeilings (r :: setNewestFall now (x :: q)) = _
      rw [bookedCeilings_cons, bookedCeilings_cons r, ih]

/-! ## Releases -/

/-- Nothing is booked anew: the reservation stands while an ACCEPTED record does, and at its release none is left (R93).
Nothing is asked of the queue, so records of one rise are no obstacle. -/
structure Channel.Releases (ch ch' : Channel) : Prop where
  /-- No record becomes ACCEPTED, and none changes its ceiling. -/
  booked : bookedCeilings ch'.queue ⊆ bookedCeilings ch.queue
  /-- The reservation is kept or released. -/
  res : ch'.res = ch.res ∧ (bookedCeilings ch'.queue = [] → bookedCeilings ch.queue = []) ∨
    ch'.res = 0 ∧ bookedCeilings ch'.queue = []

namespace Channel.Releases

variable {ch ch' ch'' : Channel}

theorem of_booked_eq (hq : bookedCeilings ch'.queue = bookedCeilings ch.queue) (hr : ch'.res = ch.res) :
    ch.Releases ch' := ⟨fun _ hk => hq ▸ hk, .inl ⟨hr, fun hn => hq ▸ hn⟩⟩

theorem of_eq (hq : ch'.queue = ch.queue) (hr : ch'.res = ch.res) : ch.Releases ch' :=
  .of_booked_eq (congrArg bookedCeilings hq) hr

theorem refl (ch : Channel) : ch.Releases ch := .of_eq rfl rfl

theorem of_quiet (hq : bookedCeilings ch'.queue = []) (hr : ch'.res = 0) : ch.Releases ch' :=
  ⟨by simp [hq], .inr ⟨hr, hq⟩⟩

theorem trans (h : ch.Releases ch') (h' : ch'.Releases ch'') : ch.Releases ch'' where
  booked _ hk := h.booked (h'.booked hk)
  res := by
    rcases h'.res with ⟨hr', hn'⟩ | h0
    · rcases h.res with ⟨hr, hn⟩ | ⟨hr, hq⟩
      · exact .inl ⟨hr'.trans hr, fun he => hn (hn' he)⟩
      · exact .inr ⟨hr'.trans hr, List.subset_nil.1 (hq ▸ h'.booked)⟩
    · exact .inr h0

end Channel.Releases

/-! ## The acts of the Planner -/

namespace Channel

variable {now : Nat}

/-- The release of R93 after records have ended or left. -/
theorem releaseIfQuiet_releases {ch ch' : Channel} (hq : bookedCeilings ch'.queue ⊆ bookedCeilings ch.queue)
    (hr : ch'.res = ch.res) : ch.Releases ch'.releaseIfQuiet where
  booked := by simpa using hq
  res := by
    simp only [releaseIfQuiet_res, releaseIfQuiet_frame]
    cases h : ch'.queue.any (·.isAccepted) with
    | true => exact .inl ⟨hr, fun hn => by rw [bookedCeilings_eq_nil, h] at hn; cases hn⟩
    | false => exact .inr ⟨rfl, bookedCeilings_eq_nil.2 h⟩

theorem enterWedge_releases (fromRest : Bool) (ch : Channel) : ch.Releases (ch.enterWedge now fromRest) :=
  .of_eq (by simp) (by simp)

theorem enterFade_releases (r : BurstRecord) (ch : Channel) : ch.Releases (ch.enterFade now r) :=
  .of_eq (by simp) (by simp)

theorem handOver_releases (p : PlanState) (old r : BurstRecord) (ch : Channel) :
    ch.Releases (ch.handOver now p old r) := .of_eq (by simp) (by simp)

theorem placeAfter_releases (delay : Nat) (old : BurstRecord) (ch : Channel) :
    ch.Releases (ch.placeAfter now delay old) := .of_eq (by simp) (by simp)

theorem afterCut_releases (delay : Nat) (ch : Channel) : ch.Releases (ch.afterCut now delay) :=
  .of_eq (by simp) (by simp)

theorem leave_releases (r : BurstRecord) (ch : Channel) : ch.Releases (ch.leave r) := by
  refine releaseIfQuiet_releases (fun k hk => ?_) rfl
  obtain ⟨x, hx, ha, hc⟩ := mem_bookedCeilings.1 hk
  exact mem_bookedCeilings.2 ⟨x, List.mem_of_mem_filter hx, ha, hc⟩

theorem truncate_releases (why : CutReason) (r : BurstRecord) (ch : Channel) :
    ch.Releases (ch.truncate now why r) := by
  refine releaseIfQuiet_releases (fun k hk => ?_) rfl
  obtain ⟨x', hx', ha, hc⟩ := mem_bookedCeilings.1 hk
  obtain ⟨x, hx, rfl⟩ := List.mem_map.1 hx'
  split at ha
  · cases (ha : false = true)
  · next hne => exact mem_bookedCeilings.2 ⟨x, hx, ha, by rwa [if_neg hne] at hc⟩

theorem truncateWriting_releases (why : CutReason) (ch : Channel) : ch.Releases (ch.truncateWriting now why) := by
  unfold Channel.truncateWriting
  split
  · split
    · exact ch.truncate_releases why _
    · exact .refl ch
  · exact .refl ch

/-- A change of one record that is no part of what it booked. -/
theorem updRecord_releases {rise : Nat} {f : BurstRecord → BurstRecord} (ch : Channel)
    (hf : ∀ r, (f r).outcome = r.outcome ∧ (f r).ceiling = r.ceiling) : ch.Releases (ch.updRecord rise f) := by
  refine .of_booked_eq (bookedCeilings_map (fun r => ?_) ch.queue) rfl
  split
  · exact hf r
  · exact ⟨rfl, rfl⟩

/-- An entry into FAULT or HALTED refuses every live record (R23, R94). -/
theorem shutDown_releases (p : PlanState) (cut : CutReason) (why : RefuseReason) (ch : Channel) :
    ch.Releases (ch.shutDown now p cut why) :=
  .of_quiet (bookedCeilings_eq_nil.2 (any_isAccepted_of_any_served (refuseAll_any_served why _))) rfl

theorem enterHalted_releases (ch : Channel) : ch.Releases (ch.enterHalted now) := by
  unfold Channel.enterHalted
  split
  · exact .refl ch
  · exact ch.shutDown_releases _ _ _

theorem enterFault_releases (k : EventKind) (ch : Channel) : ch.Releases (ch.enterFault now k) := by
  unfold Channel.enterFault
  split
  · exact .refl ch
  · exact .trans (.of_eq (by simp) (by simp)) (shutDown_releases _ _ _ (ch.post k _ 0))

theorem servoUp_releases (ch : Channel) : ch.Releases (ch.servoUp now) := by
  unfold Channel.servoUp
  split
  case h_1 => exact (ch.truncateWriting_releases .servo).trans (enterWedge_releases _ _)
  case h_4 =>
    split
    · exact (ch.leave_releases _).trans (enterWedge_releases _ _)
    · exact ch.enterWedge_releases _
  all_goals exact .of_eq (by simp) (by simp)

theorem servoDown_releases (delay : Nat) (ch : Channel) : ch.Releases (ch.servoDown now delay) := by
  unfold Channel.servoDown
  split <;> exact .of_eq (by simp) (by simp)

theorem warmExpiry_releases (r : BurstRecord) (ch : Channel) : ch.Releases (ch.warmExpiry now r) := by
  unfold Channel.warmExpiry
  split
  · exact .of_eq (by simp) (by simp)
  · split
    · split
      · exact (ch.leave_releases _).trans (handOver_releases _ _ _ _)
      · exact .refl ch
    · exact .refl ch

theorem takeWarmStart_releases (r : BurstRecord) (ch : Channel) : ch.Releases (ch.takeWarmStart now r) := by
  have hm := ch.updRecord_releases (rise := r.rise) (f := fun x => { x with warmTaken := true }) fun _ => ⟨rfl, rfl⟩
  unfold Channel.takeWarmStart
  dsimp only
  split
  · exact hm.trans (warmExpiry_releases r _)
  · exact hm

theorem startWriting_releases (r : BurstRecord) (ch : Channel) : ch.Releases (ch.startWriting now r) := by
  unfold Channel.startWriting
  split
  · exact .of_eq (by simp) (by simp)
  · split
    · exact .of_eq (by simp) (by simp)
    · split
      · split
        · exact (ch.leave_releases _).trans (handOver_releases _ _ _ _)
        · exact .refl ch
      · exact .refl ch

theorem takeWriteStart_releases (r : BurstRecord) (ch : Channel) : ch.Releases (ch.takeWriteStart now r) := by
  have hm :=
    ch.updRecord_releases (rise := r.rise) (f := fun x => { x with startTaken := true }) fun _ => ⟨rfl, rfl⟩
  unfold Channel.takeWriteStart
  dsimp only
  split
  · split
    · exact hm.trans (truncate_releases .servo r _)
    · exact hm.trans (startWriting_releases r _)
  · exact hm

theorem finishWrite_releases (delay : Nat) (r : BurstRecord) (ch : Channel) :
    ch.Releases (ch.finishWrite now delay r) := by
  unfold Channel.finishWrite
  dsimp only
  split
  · exact (ch.leave_releases r).trans (placeAfter_releases _ _ _)
  · refine (ch.updRecord_releases fun _ => ?_).trans (enterFade_releases r _)
    exact ⟨rfl, rfl⟩

theorem takeWriteEnd_releases (delay : Nat) (r : BurstRecord) (ch : Channel) :
    ch.Releases (ch.takeWriteEnd now delay r) := by
  have hm := ch.updRecord_releases (rise := r.rise) (f := fun x => { x with endTaken := true }) fun _ => ⟨rfl, rfl⟩
  unfold Channel.takeWriteEnd
  dsimp only
  split
  · split
    · exact hm.trans (finishWrite_releases delay r _)
    · exact hm
  · exact hm.trans (leave_releases r _)

theorem cut_releases (delay : Nat) (r : BurstRecord) (ch : Channel) : ch.Releases (ch.cut now delay r) := by
  have hm : ch.Releases (ch.cutMark now r) :=
    (ch.updRecord_releases (rise := r.rise) (f := (·.setFall now)) fun _ => ⟨rfl, rfl⟩).trans (.of_eq rfl rfl)
  rw [cut_eq]
  split
  · split
    · exact (hm.trans (truncate_releases .stall r _)).trans (afterCut_releases delay _)
    · exact hm.trans (truncate_releases .stall r _)
  · exact hm

theorem takeFall_releases (ch : Channel) : ch.Releases (ch.takeFall now) := by
  unfold Channel.takeFall
  dsimp only
  split
  · exact .of_eq rfl rfl
  · exact .of_booked_eq (bookedCeilings_setNewestFall now ch.queue) rfl

theorem takeSample_releases (lines : BitVec 2) (ch : Channel) : ch.Releases (ch.takeSample now lines) := by
  obtain ⟨m, -, -, ⟨he, -⟩ | ⟨k, he⟩⟩ := ch.takeSample_cases now lines <;> rw [he]
  · exact .of_eq rfl rfl
  · have hm : ch.Releases { ch with mon := m } := .of_eq rfl rfl
    exact hm.trans (enterFault_releases k _)

theorem restart_releases (ch : Channel) : ch.Releases (ch.restart now) := by
  unfold Channel.restart
  split
  · exact .refl ch
  · dsimp only
    split
    · exact .trans (.of_quiet (by simp [bookedCeilings]) (by simp)) (enterHalted_releases _)
    · exact .of_quiet (by simp [bookedCeilings]) (by simp)

theorem clearFault_releases (ch : Channel) : ch.Releases (ch.clearFault now) := by
  unfold Channel.clearFault
  split <;> exact .of_eq (by simp) (by simp)

theorem drift_releases (ch : Channel) : ch.Releases ch.drift := .of_eq (by simp) (by simp)

theorem passQuantum_releases (c : Chan) (delay : Nat) (ch : Channel) : ch.Releases (ch.passQuantum c now delay) := by
  obtain ⟨g, hg, hq⟩ := ch.passQuantum_queue (c := c) (now := now) (delay := delay)
  refine .of_booked_eq (hq ▸ bookedCeilings_map (fun r => ?_) ch.queue) rfl
  rw [(hg r).1]
  exact ⟨rfl, rfl⟩

end Channel

theorem WriteKind.plan_releases {now : Nat} (k : WriteKind) (ch : Channel) : ch.Releases (k.plan now ch) := by
  cases k with
  | headSelect | preampReset | headField | lowByte | highByte | bandSelect =>
    show ch.Releases (ch.refreshRest now)
    exact .of_eq (by simp) (by simp)
  | modeNormal | modeShadow =>
    show ch.Releases (if ch.plan = .halted then ch.enterRest now else ch.refreshRest now)
    split <;> exact .of_eq (by simp) (by simp)
  | modeHalt => exact ch.enterHalted_releases
  | faultClear => exact ch.clearFault_releases
  | channelRestart => exact ch.restart_releases
  | pageSelect | levelRegister | heatSetting | monitorRegister | stallLimit | wedgeLevel | inject | other =>
    exact .refl ch

/-! ## The commands of a channel -/

/-- The rise of channel `c` that no test refuses, and what it leaves (R14, R15). -/
def State.Books (c : Chan) (s : State) (ch' : Channel) : Prop :=
  (s.ch c).risen.refusal ((s.ch c).holdsProtected c s.slot) (s.avail c) = none ∧
    ((s.ch c).risen.booked s.now (s.delay c) (s.avail c)).Releases ch'

theorem State.Move.books_or_releases {c : Chan} {s : State} {i : Instr} {ch' : Channel} (h : s.Move c i ch') :
    s.Books c ch' ∨ (s.ch c).Releases ch' := by
  have servo (level : Bool) : (s.ch c).Releases { s.ch c with sg := level, sgHeld := 0 } := .of_eq rfl rfl
  cases h with
  | rise =>
    rcases Channel.takeRise_cases s.now (s.delay c) ((s.ch c).holdsProtected c s.slot) (s.avail c) (s.ch c) with
      ⟨-, he⟩ | ⟨-, ⟨-, he⟩ | ⟨-, why, -, he⟩ | ⟨-, hw, he⟩⟩ <;> rw [he]
    · exact .inr (.of_eq rfl rfl)
    · exact .inr (.of_eq rfl rfl)
    · exact .inr (.of_booked_eq ((bookedCeilings_append _ _).trans (List.append_nil _)) rfl)
    · exact .inl ⟨hw, .of_eq (by simp) (by simp)⟩
  | fall => exact .inr (s.ch c).takeFall_releases
  | returnLow => exact .inr (.of_eq rfl rfl)
  | servoRise => exact .inr ((servo true).trans (Channel.servoUp_releases _))
  | servoFall => exact .inr ((servo false).trans (Channel.servoDown_releases _ _))
  | warmStart => exact .inr ((s.ch c).takeWarmStart_releases _)
  | writeStart => exact .inr ((s.ch c).takeWriteStart_releases _)
  | writeEnd => exact .inr ((s.ch c).takeWriteEnd_releases _ _)
  | tailEnd => exact .inr (((s.ch c).leave_releases _).trans (Channel.placeAfter_releases _ _ _))
  | stallCut => exact .inr ((s.ch c).cut_releases _ _)
  | heatTick =>
    have ht : (s.ch c).Releases ((s.ch c).ticked s.now) := .of_eq rfl rfl
    exact .inr (ht.trans (Channel.drift_releases _))
  | sample => exact .inr ((s.ch c).takeSample_releases _)

/-- Every command of a channel books at an accepted rise, or releases at most. -/
theorem State.Answer.books_or_releases {c : Chan} {s t : State} {i : Instr} (h : s.Answer c i t) :
    (s.Books c (t.ch c) ∧ (t.ch c).image = (s.ch c).image) ∨ (s.ch c).Releases (t.ch c) := by
  cases h with
  | unchanged => exact .inr (.refl _)
  | move _ h => rw [State.upd_ch]; exact h.books_or_releases.imp_left fun hb => ⟨hb, h.local.image⟩
  | frame _ h => rw [State.upd_ch]; exact .inr (.of_eq h.unserved.queue h.unserved.res)
  | @write k page addr data =>
    rw [State.delivered_ch, WriteKind.effect_eq]
    have hd := k.dress_dressed addr data (s.ch c)
    exact .inr ((Channel.Releases.of_eq hd.queue hd.res).trans ((k.plan_releases _).trans (.of_eq rfl rfl)))
  | @read k byte addr hold =>
    have ht := readEffect_touched s.loaded addr hold byte (s.ch c)
    cases c <;> exact .inr (.of_eq ht.queue ht.res)

/-- The level image changes only where the channel is not active (R142, R151). -/
theorem State.Answer.image {c : Chan} {s t : State} {i : Instr} (h : s.Answer c i t) (hr : s.RelayLaw) :
    (t.ch c).image = (s.ch c).image ∨ (s.ch c).active = false := by
  cases h with
  | unchanged => exact .inl rfl
  | move _ h => rw [State.upd_ch]; exact .inl h.local.image
  | frame _ h => rw [State.upd_ch]; exact h.image hr
  | @write k page addr data _ hw hk =>
    by_cases hp : k ∈ [.headSelect, .levelRegister, .preampReset]
    · exact .inr (hr.inactive_of_protected hw (protectedFrame_of_writeKind (hk ▸ hp)))
    · rw [State.delivered_ch, WriteKind.effect_eq]
      exact .inl ((k.plan_planned (start := false) _).image.trans (k.dress_image hp addr data _))
  | @read k byte addr hold =>
    have hi : (readEffect s.loaded addr hold byte (s.ch c)).image = (s.ch c).image := by
      unfold readEffect
      split
      · rfl
      · simp
    cases c <;> exact .inl hi

/-! ## The laws of one channel -/

theorem Channel.ResLaw.releases {ch ch' : Channel} (h : ch.ResLaw) (hr : ch.Releases ch') :
    ch'.ResLaw ∧ ch'.res ≤ ch.res := by
  rcases hr.res with ⟨hres, hn⟩ | ⟨hres, -⟩
  · refine ⟨⟨hres.trans_le h.most, fun hq => hres.trans (h.quiet ?_)⟩, hres.le⟩
    exact bookedCeilings_eq_nil.1 (hn (bookedCeilings_eq_nil.2 hq))
  · exact ⟨⟨by omega, fun _ => hres⟩, by omega⟩

theorem Channel.CoverLaw.releases {ch ch' : Channel} (h : ch.CoverLaw) (hr : ch.Releases ch')
    (hi : ch'.image = ch.image) : ch'.CoverLaw := by
  intro r' hr' ha'
  have hmem : r'.ceiling ∈ bookedCeilings ch'.queue := mem_bookedCeilings.2 ⟨r', hr', ha', rfl⟩
  obtain ⟨r, hmem', ha, hc⟩ := mem_bookedCeilings.1 (hr.booked hmem)
  obtain ⟨w, v, k, hw, hv, hk, hle⟩ := h r hmem' ha
  refine ⟨w, v, k, hi ▸ hw, hi ▸ hv, hc.symm.trans hk, ?_⟩
  rcases hr.res with ⟨hres, -⟩ | ⟨-, hn⟩
  · rwa [hres]
  · rw [hn] at hmem; cases hmem

/-- The registers of a ready channel are the bases of the target, so the raised reservation covers them (R92, R95). -/
theorem Channel.CoverLaw.booked {now delay : Nat} {held : Bool} {avail : Int} {ch : Channel} (h : ch.CoverLaw)
    (hw : ch.refusal held avail = none) : (ch.booked now delay avail).CoverLaw := by
  intro r hr ha
  rcases List.mem_append.1 hr with hr | hr
  · refine h.of_records (ch' := ch.booked now delay avail) rfl ?_ ha ⟨r, hr, rfl, rfl⟩
    show ch.res ≤ ch.risenRes avail
    unfold Channel.risenRes raisedReservation
    split
    · exact le_max_left ..
    · exact le_rfl
  · rw [List.mem_singleton.1 hr] at ha ⊢
    have hm := Channel.servedRecord_isAccepted.1 ha
    obtain ⟨w, v, hw, hv, hmax⟩ := Channel.image_of_ready (Channel.acceptable_of_refusal hw).ready
    refine ⟨w, v, _, hw, hv, if_pos hm, ?_⟩
    show _ ≤ ((ch.risenRes avail : Nat) : Int)
    rw [Channel.risenRes, if_pos hm, raisedReservation, ← hmax]
    omega

/-- No command takes a reservation above what it was or what the other leaves of B (R91, R92). -/
theorem State.Answer.resLaw {c : Chan} {s t : State} {i : Instr} (h : s.Answer c i t) (hr : (s.ch c).ResLaw) :
    (t.ch c).ResLaw ∧ ((t.ch c).res ≤ (s.ch c).res ∨ ((t.ch c).res : Int) ≤ s.avail c) := by
  rcases h.books_or_releases with ⟨⟨-, hrel⟩, -⟩ | hrel
  · obtain ⟨hb, hle⟩ : ((s.ch c).risen.booked s.now (s.delay c) (s.avail c)).ResLaw ∧ _ :=
      Channel.booked_resLaw (ch := (s.ch c).risen) ⟨hr.most, hr.quiet⟩
    obtain ⟨hb', hle'⟩ := hb.releases hrel
    have hrisen : (s.ch c).risen.res = (s.ch c).res := rfl
    exact ⟨hb', by omega⟩
  · obtain ⟨hr', hle⟩ := hr.releases hrel
    exact ⟨hr', .inl hle⟩

theorem State.Answer.covers {c : Chan} {s t : State} {i : Instr} (h : s.Answer c i t) (hr : s.RelayLaw)
    (hc : (s.ch c).CoverLaw) : (t.ch c).CoverLaw := by
  rcases h.books_or_releases with ⟨⟨hw, hrel⟩, hi⟩ | hrel
  · have hrisen : (s.ch c).risen.CoverLaw := hc
    exact (hrisen.booked hw).releases hrel hi
  · rcases h.image hr with hi | hq
    · exact hc.releases hrel hi
    · have hnil := bookedCeilings_eq_nil.2 (Channel.any_isAccepted_of_inactive hq)
      exact .of_quiet (bookedCeilings_eq_nil.1 (List.subset_nil.1 (hnil ▸ hrel.booked)))

/-! ## Resets, upstream frames and quanta -/

/-- A command of no channel leaves both channels and the loaded copy, or empties both queues and releases both
reservations (R89, R174). -/
theorem exec_unaddressed {i : Instr} {s t : State} (hc : i.channel = none) (h : exec i s = .next t) :
    (t.loaded = s.loaded ∧ ∀ c, t.ch c = s.ch c) ∨ ∀ c, (t.ch c).queue = [] ∧ (t.ch c).res = 0 := by
  cases i <;> cases hc
  case powerOn.refl =>
    cases h
    exact .inr fun c => by cases c <;> exact ⟨rfl, rfl⟩
  case optionLoadComplete.refl =>
    simp only [exec, execOptionLoadComplete] at h
    split at h
    · split at h
      · split at h <;> cases h <;> exact .inr fun c => by cases c <;> exact ⟨rfl, rfl⟩
      · cases h; exact .inl ⟨rfl, fun _ => rfl⟩
    all_goals cases h; exact .inl ⟨rfl, fun _ => rfl⟩
  case rstnFall.refl =>
    simp only [exec, execRstnFall] at h
    split at h <;> cases h
    case h_1 => exact .inr fun c => by cases c <;> exact ⟨rfl, rfl⟩
    all_goals exact .inl ⟨rfl, fun c => by cases c <;> rfl⟩
  case rstnRise.refl =>
    simp only [exec, execRstnRise] at h
    split at h <;> cases h
    case h_1 | h_2 => exact .inr fun c => by cases c <;> exact ⟨rfl, rfl⟩
    all_goals exact .inl ⟨rfl, fun c => by cases c <;> rfl⟩
  all_goals
    have hb := exec_upstream_sameBut rfl rfl h
    exact .inl ⟨by rw [hb], hb.ch⟩

/-- One quantum leaves the loaded copy and the level images, and books nothing. -/
theorem State.passQuantum_books (s : State) : s.passQuantum.loaded = s.loaded ∧
    ∀ c, (s.passQuantum.ch c).image = (s.ch c).image ∧ (s.ch c).Releases (s.passQuantum.ch c) := by
  by_cases hr : s.phase = .running
  · refine ⟨?_, fun c => ?_⟩
    · unfold State.passQuantum
      rw [if_pos ((State.running_iff s).2 hr)]
    · rw [s.passQuantum_ch hr]
      exact ⟨rfl, Channel.passQuantum_releases c _ _⟩
  · rw [s.passQuantum_reset hr]
    exact ⟨rfl, fun c => by cases c <;> exact ⟨rfl, .refl _⟩⟩

/-! ## The step -/

/-- All that a step can be: a command, the queue and the count of choices standing as they may, or a quantum (log 1). -/
theorem step_cases {s t : State} (h : step s = .next t) :
    (∃ i n q, exec i { s with orderCount := n, pending := q } = .next t) ∨ t = s.passQuantum := by
  unfold step at h
  split at h
  · exact .inl ⟨_, s.orderCount, _, h⟩
  · rcases s.ownEvent_cases with ⟨he, -⟩ | ⟨i, n, he⟩ <;> rw [he] at h
    · cases h; exact .inr rfl
    · exact .inl ⟨i, n, s.pending, h⟩

theorem State.headroomLaw_iff {s : State} :
    s.HeadroomLaw ↔ s.chA.res + s.chB.res ≤ s.loaded.budget ∧ ∀ c, (s.ch c).ResLaw :=
  ⟨fun ⟨hsum, hmost, hquiet⟩ => ⟨hsum, fun c => ⟨hmost c, hquiet c⟩⟩,
    fun ⟨hsum, h⟩ => ⟨hsum, fun c => (h c).most, fun c => (h c).quiet⟩⟩

/-- Where neither channel books, the reservations stay within B. -/
theorem State.HeadroomLaw.releases {s t : State} (h : s.HeadroomLaw) (hl : t.loaded = s.loaded)
    (hrel : ∀ c, (s.ch c).Releases (t.ch c)) : t.HeadroomLaw := by
  obtain ⟨hsum, hres⟩ := State.headroomLaw_iff.1 h
  have hle (c : Chan) := (hres c).releases (hrel c)
  have ha : t.chA.res ≤ s.chA.res := (hle .a).2
  have hb : t.chB.res ≤ s.chB.res := (hle .b).2
  exact State.headroomLaw_iff.2 ⟨by rw [hl]; omega, fun c => (hle c).1⟩

/-- Every command keeps the law of the reservations (R89 to R93). -/
theorem State.HeadroomLaw.exec {s t : State} {i : Instr} (h : s.HeadroomLaw) (he : Machine.exec i s = .next t) :
    t.HeadroomLaw := by
  cases hc : i.channel with
  | some c =>
    have ha := exec_answer hc he
    obtain ⟨-, -, hloaded⟩ := ha.fields
    obtain ⟨hsum, hres⟩ := State.headroomLaw_iff.1 h
    obtain ⟨hr, hle⟩ := ha.resLaw (hres c)
    refine State.headroomLaw_iff.2 ⟨?_, fun d => ?_⟩
    · rw [State.res_add c, ha.ch_other, hloaded]
      exact State.sum_le_of_avail hsum hle
    · rcases eq_or_eq_otherChan c d with rfl | rfl
      · exact hr
      · rw [ha.ch_other]; exact hres _
  | none =>
    rcases exec_unaddressed hc he with ⟨hl, hch⟩ | hreset
    · exact h.releases hl fun c => hch c ▸ .refl _
    · have ha : t.chA.res = 0 := (hreset .a).2
      have hb : t.chB.res = 0 := (hreset .b).2
      exact State.headroomLaw_iff.2 ⟨by omega, fun d =>
        ⟨(hreset d).2.trans_le (Nat.zero_le _), fun _ => (hreset d).2⟩⟩

/-- Every command keeps the reservations above what is driven for their records (R95, R96). -/
theorem exec_coverLaw {s t : State} {i : Instr} (hr : s.RelayLaw) (hcov : ∀ c, (s.ch c).CoverLaw)
    (he : exec i s = .next t) (d : Chan) : (t.ch d).CoverLaw := by
  cases hc : i.channel with
  | some c =>
    have ha := exec_answer hc he
    rcases eq_or_eq_otherChan c d with rfl | rfl
    · exact ha.covers hr (hcov _)
    · rw [ha.ch_other]; exact hcov _
  | none =>
    rcases exec_unaddressed hc he with ⟨-, hch⟩ | hreset
    · rw [hch]; exact hcov d
    · exact .of_quiet (by rw [(hreset d).1]; rfl)

/-- Neither law speaks of the waiting commands or of the choices of order. -/
theorem State.RelayLaw.queue_and_choices {s : State} (h : s.RelayLaw) (n : Nat) (q : List Instr) :
    State.RelayLaw { s with orderCount := n, pending := q } := by
  obtain ⟨⟨hrdy, hreset, hreading, hreceiving⟩, hlink⟩ := State.relayLaw_iff.1 h
  exact State.relayLaw_iff.2 ⟨⟨hrdy, hreset, hreading, hreceiving⟩, hlink⟩

theorem State.HeadroomLaw.queue_and_choices {s : State} (h : s.HeadroomLaw) (n : Nat) (q : List Instr) :
    State.HeadroomLaw { s with orderCount := n, pending := q } := h.releases rfl fun c => .refl (s.ch c)

/-- Settles O57: only an accepted rise books, and no more than the other channel leaves of B. -/
theorem headroomLawIsKept : Obligations.HeadroomLawIsKept := by
  intro s t h
  rcases step_cases h with ⟨i, n, q, he⟩ | rfl
  · exact ⟨fun hs => (hs.queue_and_choices n q).exec he,
      fun hr hcov => exec_coverLaw (hr.queue_and_choices n q) hcov he⟩
  · obtain ⟨hloaded, hch⟩ := s.passQuantum_books
    exact ⟨fun hs => hs.releases hloaded fun c => (hch c).2, fun _ hcov c => (hcov c).releases (hch c).2 (hch c).1⟩

end Sys2Proof.Machine
end

section
/-! SUPPORT. The Light Monitor written out: what it does at a change of the driven level, and what a sample does
(R101 to R108, R110). -/

namespace Sys2Proof.Machine

/-! ## The monitor at a change of level (R101 to R103) -/

/-- OFF and BIAS are the levels that are not heated (R100). -/
theorem Level.not_heated_iff {l : Level} : l.heated = false ↔ l = .off ∨ l = .bias := by
  cases l <;> simp [Level.heated]

namespace Monitor

variable {old new : Level} {now period : Nat} {m : Monitor}

/-- The start of a heated stretch (R101). -/
theorem follow_of_begin (ho : old.heated = false) (hn : new.heated = true) :
    m.follow old new now period = { m with due := some (now + period), since := 0 } := by
  unfold Monitor.follow
  rw [if_pos hn, if_neg (Bool.eq_false_iff.1 ho)]

/-- A change of level inside a heated stretch (R102). -/
theorem follow_of_inside (ho : old.heated = true) (hn : new.heated = true) (hne : old ≠ new) :
    m.follow old new now period = { m with since := 0 } := by
  unfold Monitor.follow
  rw [if_pos hn, if_pos ho, if_neg hne]

/-- The end of a heated stretch, whichever level ends it (R103). -/
theorem follow_of_end (ho : old.heated = true) (hn : new.heated = false) :
    m.follow old new now period = { m with due := none, low := 0, high := 0 } := by
  rw [follow_of_not_heated hn, follow_off ho]

/-- Outside a heated stretch the monitor stands (R100). -/
theorem follow_of_outside (ho : old.heated = false) (hn : new.heated = false) : m.follow old new now period = m := by
  unfold Monitor.follow
  rw [if_neg (Bool.eq_false_iff.1 hn), if_neg (Bool.eq_false_iff.1 ho)]

end Monitor

/-- Settles O17: which of the two levels are heated says whether a stretch begins, goes on, ends or is none. -/
theorem monitorFollowsTheLevel : Obligations.MonitorFollowsTheLevel := by
  intro now period old new m
  have hot {l : Level} (h : l ∈ [Level.warm, .write]) : l.heated = true := Level.heated_iff.2 (by simpa using h)
  have cold {l : Level} (h : l ∈ [Level.off, .bias]) : l.heated = false := Level.not_heated_iff.2 (by simpa using h)
  exact ⟨fun ho hn => Monitor.follow_of_begin (cold ho) (hot hn),
    fun ho hn => Monitor.follow_of_inside (hot ho) (hot hn),
    fun ho hn => Monitor.follow_of_end (hot ho) (cold hn),
    fun ho hn => Monitor.follow_of_outside (cold ho) (cold hn),
    Channel.follow_self old now period m⟩

/-! ## A sample (R104 to R108, R110) -/

section
variable {c : Chan} {s : State} {ch : Channel} {due : Nat} {lines : BitVec 2} (hs : s.ch c = ch)
include hs

theorem exec_monitorSample (hr : s.phase = .running) (hd : ch.mon.due = some due) (hle : due ≤ s.now) :
    exec (.monitorSample c lines) s = .next (s.upd c fun _ => ch.takeSample s.now lines) := by
  subst hs
  exact next_of_taken rfl hr (hasCome_iff.2 ⟨due, hd, hle⟩)

/-- A sample before its instant, or with the timer stopped, is no event (log 4). -/
theorem exec_monitorSample_early (h : ∀ t, ch.mon.due = some t → s.now < t) :
    exec (.monitorSample c lines) s = .next s := by
  subst hs
  refine next_of_not_taken (Bool.eq_false_iff.2 fun hc => ?_)
  obtain ⟨t, ht, hle⟩ := hasCome_iff.1 hc
  exact absurd (h t ht) (Nat.not_lt.2 hle)

end

namespace Channel

/-- The reading a counted sample is taken as: LOW while the inject arm is armed (R104, R110). -/
def sampleReading (lines : BitVec 2) (ch : Channel) : Reading := if ch.mon.armed then .low else readingOf lines

/-- The channel after a counted sample that brings the counts to `low` and `high`, before any declaration: the arm
disarmed, one more sample since entry, the next one scheduled (R104, R105, R110). -/
def sampled (now low high : Nat) (ch : Channel) : Channel :=
  { ch with
    mon := {
      due := some (now + ch.set.monPeriod), since := min 3 (ch.mon.since + 1), low := low, high := high
      armed := false } }

variable {now : Nat} {lines : BitVec 2} {ch : Channel}

/-- The fourth encoding of the lines is taken as LOW (R104, R177). -/
theorem sampleReading_low_iff : ch.sampleReading lines = .low ↔ ch.mon.armed = true ∨ lines = 0 ∨ lines = 3 := by
  have hlines : readingOf lines = .low ↔ lines = 0 ∨ lines = 3 := by revert lines; decide
  unfold Channel.sampleReading
  cases ch.mon.armed <;> simp [hlines]

theorem sampleReading_of_not_armed (h : ch.mon.armed ≠ true) : ch.sampleReading lines = readingOf lines := if_neg h

/-- A settle sample is discarded (R104). -/
theorem takeSample_of_settling (h : ch.mon.since < ch.set.settle) : ch.takeSample now lines =
    { ch with
      mon := { ch.mon with due := some (now + ch.set.monPeriod), since := min 3 (ch.mon.since + 1) } } := by
  unfold Channel.takeSample
  rw [if_pos h]
  rfl

/-- After a counted reading, with the arm disarmed and the next sample scheduled (R104, R105, R110). -/
theorem scheduled_counted (reading : Reading) :
    let m := ({ ch.mon with armed := false } : Monitor).counted reading
    { ch with mon := m.scheduled now ch.set.monPeriod } = ch.sampled now m.low m.high := by
  cases reading <;> rfl

section
variable (hset : ch.set.settle ≤ ch.mon.since)
include hset

/-- A counted sample moves the counts by its reading, and then declares what they amount to (R105 to R107). -/
theorem takeSample_of_counted : ch.takeSample now lines =
    let m := ({ ch.mon with armed := false } : Monitor).counted (ch.sampleReading lines)
    (m.declares (ch.sampleReading lines) ch.set.nLoss).elim (ch.sampled now m.low m.high)
      fun k => (ch.sampled now m.low m.high).enterFault now k := by
  have hreading : (if ch.mon.armed then .low else readingOf lines) = ch.sampleReading lines := rfl
  unfold Channel.takeSample
  rw [if_neg (Nat.not_lt.2 hset), hreading]
  dsimp only
  rw [scheduled_counted]
  split <;> next hdecl => rw [hdecl]; rfl

/-- A LOW declares light loss from N_loss up (R106). -/
theorem takeSample_low (h : ch.sampleReading lines = .low) : ch.takeSample now lines =
    if ch.set.nLoss ≤ ch.mon.low + 1 then (ch.sampled now (ch.mon.low + 1) 0).enterFault now .lightLoss
    else ch.sampled now (ch.mon.low + 1) 0 := by
  rw [takeSample_of_counted hset, h]
  exact apply_ite (fun o : Option EventKind => o.elim _ _) ..

/-- A reading in the window declares nothing (R105). -/
theorem takeSample_inWindow (h : ch.sampleReading lines = .inWindow) :
    ch.takeSample now lines = ch.sampled now 0 0 := by
  rw [takeSample_of_counted hset, h]
  rfl

/-- The second HIGH in a row declares light over (R107). -/
theorem takeSample_high (h : ch.sampleReading lines = .high) : ch.takeSample now lines =
    if 2 ≤ ch.mon.high + 1 then (ch.sampled now 0 (ch.mon.high + 1)).enterFault now .lightOver
    else ch.sampled now 0 (ch.mon.high + 1) := by
  rw [takeSample_of_counted hset, h]
  exact apply_ite (fun o : Option EventKind => o.elim _ _) ..

end

/-- A declaration finds a plan that serves, and the channel enters FAULT, the declaration's event first (R51, R108). -/
theorem enterFault_of_serving {k : EventKind} (h : ch.plan.serving = true) : ch.enterFault now k =
    (ch.post k (headCode (ch.front.bind (·.head))) 0).shutDown now .fault .fault .faulted := by
  unfold Channel.enterFault
  rw [if_neg]
  rintro (hp | hp | hp) <;> rw [hp] at h <;> cases h

end Channel

/-- Settles O39: the timer says whether the sample is an event, samples since entry whether it counts, and the reading
it is taken as what it counts and declares. -/
theorem monitorSample : Obligations.MonitorSample := by
  intro c lines s ch due hs hr
  refine ⟨fun hd => ?_, fun hd hlt => ?_, fun hd hle => ?_⟩
  · exact exec_monitorSample_early hs fun t ht => by rw [hd] at ht; cases ht
  · exact exec_monitorSample_early hs fun t ht => by rw [hd] at ht; cases ht; exact hlt
  intro next isLow sampled faulted
  have hsampled (low high : Nat) : ch.sampled s.now low high = sampled low high := rfl
  have hfaulted (k : EventKind) (low high : Nat) (hp : ch.plan.serving = true) :
      (ch.sampled s.now low high).enterFault s.now k = faulted k low high := Channel.enterFault_of_serving hp
  have hreading (h : ¬isLow) : ch.sampleReading lines = readingOf lines :=
    Channel.sampleReading_of_not_armed fun ha => h (.inl ha)
  rw [exec_monitorSample hs hr hd hle]
  refine ⟨fun hset => by rw [Channel.takeSample_of_settling hset], fun hset => ⟨fun hl hn => ?_, fun hl hn hp => ?_,
    fun hl h1 => ?_, fun hl h2 hn => ?_, fun hl h2 hn hp => ?_⟩⟩
  · rw [Channel.takeSample_low hset (Channel.sampleReading_low_iff.2 hl), if_neg (Nat.not_le.2 hn), hsampled]
  · rw [Channel.takeSample_low hset (Channel.sampleReading_low_iff.2 hl), if_pos hn, hfaulted _ _ _ hp]
  · subst h1
    rw [Channel.takeSample_inWindow hset (hreading hl), hsampled]
  · subst h2
    rw [Channel.takeSample_high hset (hreading hl), if_neg (Nat.not_le.2 hn), hsampled]
  · subst h2
    rw [Channel.takeSample_high hset (hreading hl), if_pos hn, hfaulted _ _ _ hp]

end Sys2Proof.Machine
end

section
/-! SUPPORT. Completed writes of the channel fields and of the inject register, written out (R122, R124 to R126,
R128). -/

namespace Sys2Proof.Machine

/-! ## The values that a data byte gives -/

/-- Bit 0 of a byte is the parity of its number. -/
theorem getLsbD_zero_eq (data : Byte) : data.getLsbD 0 = decide (data.toNat % 2 = 1) := by
  rw [BitVec.getLsbD, Nat.testBit_zero]

theorem setWidth_three_eq (data : Byte) : data.setWidth 3 = BitVec.ofNat 3 (data.toNat % 8) := by
  apply BitVec.eq_of_toNat_eq
  simp

/-- The period code in bits 7 to 6 (R125). -/
theorem monPeriod_of_byte {n : Nat} (h : n < 256) : 32 * 2 ^ (n / 64) =
    if n < 64 then 32 else if n < 128 then 64 else if n < 192 then 128 else 256 := by
  have hcode : n / 64 = if n < 64 then 0 else if n < 128 then 1 else if n < 192 then 2 else 3 := by
    split_ifs <;> omega
  rw [hcode]
  split_ifs <;> rfl

/-- N_loss in bits 5 to 2, with 0 taken as 1 (R125). -/
theorem nLoss_of_byte (n : Nat) : max 1 (n / 4 % 16) = if n % 64 / 4 = 0 then 1 else n % 64 / 4 := by
  split <;> omega

theorem ChannelFields.writeMonitor_eq (data : Byte) (f : ChannelFields) : f.writeMonitor data =
    { f with
      monPeriod := if data.toNat < 64 then 32 else if data.toNat < 128 then 64 else if data.toNat < 192 then 128
        else 256
      nLoss := if data.toNat % 64 / 4 = 0 then 1 else data.toNat % 64 / 4
      settle := data.toNat % 4 } := by
  unfold ChannelFields.writeMonitor
  rw [monPeriod_of_byte data.isLt, nLoss_of_byte]

/-- A stall limit of 1 to 7 is taken as 8 (R125). -/
theorem stallLimitOf_eq (data : Byte) :
    stallLimitOf data = if data.toNat = 0 then 0 else if data.toNat ≤ 7 then 8 else data.toNat := by
  have hzero : data = 0 ↔ data.toNat = 0 := by bv_omega
  simp only [stallLimitOf, hzero]
  split_ifs <;> omega

/-- The wedge level in bit 0 (R126). -/
theorem wedgeLevel_of_byte (data : Byte) :
    (if data.getLsbD 0 then WedgeLevel.off else .bias) = if data.toNat % 2 = 0 then .bias else .off := by
  rw [getLsbD_zero_eq]
  rcases Nat.mod_two_eq_zero_or_one data.toNat with h | h <;> simp [h]

/-- Bit 0 going from 0 to 1 arms the inject, and the memory keeps the bit (R128). -/
theorem Channel.inject_eq (data : Byte) (ch : Channel) : ch.inject (data.getLsbD 0) =
    { ch with
      injectMemory := decide (data.toNat % 2 = 1)
      mon := { ch.mon with
        armed := if data.toNat % 2 = 1 ∧ ch.injectMemory = false then true else ch.mon.armed } } := by
  have harmed : (ch.mon.armed || (decide (data.toNat % 2 = 1) && !ch.injectMemory)) =
      if data.toNat % 2 = 1 ∧ ch.injectMemory = false then true else ch.mon.armed := by
    by_cases hbit : data.toNat % 2 = 1 <;> cases ch.injectMemory <;> simp [hbit]
  unfold Channel.inject
  rw [getLsbD_zero_eq, harmed]

/-! ## Completed writes on the parameter page -/

/-- The write of a parameter page address does to the channel what its kind does (R115, R143). -/
theorem exec_paramWrite {c : Chan} {s : State} {ch ch' : Channel} {addr : Addr} {data : Byte} {k : WriteKind}
    (hs : s.ch c = ch) (hl : s.loaded.Law) (hw : s.writeCompletes c (some s.loaded.pageParam) addr data)
    (ha : addr ≠ 0x7D ∧ addr ≠ 0x7E) (hk : paramWriteKind addr data = k)
    (he : k.effect s.now addr data ch = ch') :
    exec (k.command c) s = .next (s.delivered c fun _ => ch') := by
  rw [exec_write hs hw ((writeKind_param hl ha).trans hk), he]

/-- Settles O47: each address names its kind of write, and the kind its effect on the channel. -/
theorem channelFieldWrites : Obligations.ChannelFieldWrites := by
  intro c s ch addr data hs hl hw n put
  have fields {f g : ChannelFields} (h : f = g) : ({ ch with set := f } : Channel) = { ch with set := g } :=
    congrArg (fun x => { ch with set := x }) h
  have heat (f : ChannelFields) (ha : addr ≠ 0x7D ∧ addr ≠ 0x7E) (hk : paramWriteKind addr data = .heatSetting)
      (hf : ch.set.writeHeat addr data = f) : exec (.heatSettingWrite c) s = .next (put f) :=
    exec_paramWrite (k := .heatSetting) hs hl hw ha hk (fields hf)
  refine ⟨?_, ?_, ?_, ?_, ?_, ?_, ?_, ?_, ?_, ?_, ?_⟩ <;> rintro rfl
  · refine exec_paramWrite (k := .bandSelect) hs hl hw (by decide) rfl ?_
    show Channel.refreshRest s.now { ch with set := { ch.set with band := data.setWidth 3 } } = _
    rw [setWidth_three_eq]
  · exact heat _ (by decide) rfl rfl
  · exact heat _ (by decide) rfl rfl
  · exact heat _ (by decide) rfl rfl
  · exact heat _ (by decide) rfl (setWidth_three_eq data ▸ rfl)
  · exact heat _ (by decide) rfl rfl
  · exact heat _ (by decide) rfl rfl
  · exact exec_paramWrite (k := .monitorRegister) hs hl hw (by decide) rfl (fields (ch.set.writeMonitor_eq data))
  · refine exec_paramWrite (k := .stallLimit) hs hl hw (by decide) rfl (fields ?_)
    rw [stallLimitOf_eq]
  · refine exec_paramWrite (k := .wedgeLevel) hs hl hw (by decide) rfl (fields ?_)
    rw [wedgeLevel_of_byte]
  · exact exec_paramWrite (k := .inject) hs hl hw (by decide) rfl (ch.inject_eq data)

end Sys2Proof.Machine
end

section
/-! SUPPORT. Completed writes of the head fields, written out (R116 to R118). -/

namespace Sys2Proof.Machine

/-! ## The entries that a write reaches, and the value that it forms -/

/-- The heads a write reaches, said head by head (R116). -/
theorem writeHeads_eq_mapIdx (sel : Option Nibble) (f : HeadEntry → HeadEntry) (heads : List Head) :
    writeHeads sel f heads = heads.mapIdx fun n h =>
      if sel = some 15 ∨ sel.map (·.toNat) = some n then { h with cal := f h.cal } else h := by
  refine List.ext_getElem? fun i => ?_
  rw [List.getElem?_mapIdx]
  cases sel with
  | none => simp [writeHeads]
  | some n =>
    by_cases hall : n = 15
    · simp [writeHeads, hall]
    · have hsel : some n ≠ some 15 := fun h => hall (Option.some.inj h)
      simp only [writeHeads, if_neg hall, List.getElem?_modify, hsel, false_or, Option.map_some, Option.some.injEq,
        Option.map_eq_map]

/-- The two bytes as one number, an empty memory counting as 0 (R118). -/
theorem wordOf_toNat (high : Byte) (low : Option Byte) :
    (wordOf high low).toNat = 256 * high.toNat + (low.getD 0).toNat := by
  rw [wordOf, BitVec.toNat_append, ← Nat.shiftLeft_add_eq_or_of_lt (low.getD 0).isLt, Nat.shiftLeft_eq, Nat.mul_comm]

theorem wordOf_eq_ofNat (high : Byte) (low : Option Byte) :
    wordOf high low = BitVec.ofNat 16 (256 * high.toNat + (low.getD 0).toNat) := by
  rw [← wordOf_toNat, BitVec.ofNat_toNat, BitVec.setWidth_eq]

/-- The 24 bases stand at the addresses below 0x18 (R117). -/
theorem paramWriteKind_base {addr : Addr} (h : addr.toNat < 0x18) (data : Byte) :
    paramWriteKind addr data = .headField := by
  unfold paramWriteKind
  rw [if_neg (by bv_omega), if_neg (by bv_omega), if_pos (by omega)]

theorem HeadEntry.writeByte_base {addr : Addr} (h : addr.toNat < 0x18) (data : Byte) (e : HeadEntry) :
    e.writeByte addr data = { e with bases := e.bases.set addr.toNat (some data) } := by
  rw [HeadEntry.writeByte, if_pos h]

/-- The high byte of L0 forms the value, lowered to 400 (R118). -/
theorem HeadEntry.writeHigh_l0Value (data : Byte) (e : HeadEntry) :
    let word := 256 * data.toNat + (e.l0Low.getD 0).toNat
    e.writeHigh 0x19 data = { e with l0 := some (if word ≤ 400 then word else 400) } := by
  rw [HeadEntry.writeHigh, if_pos rfl, wordOf_toNat, Nat.min_comm, Nat.min_def]

/-- The high byte of H_ref forms the value (R118). -/
theorem HeadEntry.writeHigh_hrefValue (data : Byte) (e : HeadEntry) : e.writeHigh 0x1F data =
    { e with href := some (BitVec.ofNat 16 (256 * data.toNat + (e.hrefLow.getD 0).toNat)) } := by
  rw [HeadEntry.writeHigh, if_neg (by decide), if_pos rfl, wordOf_eq_ofNat]

/-- Settles O46: each address names its kind of write, and the kind what it does to each entry that it reaches. -/
theorem headFieldWrites : Obligations.HeadFieldWrites := by
  intro c s ch addr data hs hl hw written word
  have entries {k : WriteKind} {f g : HeadEntry → HeadEntry} (ha : addr ≠ 0x7D ∧ addr ≠ 0x7E)
      (hk : paramWriteKind addr data = k) (he : k.effect s.now addr data = Channel.writeEntries s.now f)
      (hf : ∀ e, f e = g e) : exec (k.command c) s = .next (written g) := by
    refine exec_paramWrite hs hl hw ha hk ?_
    rw [he, Channel.writeEntries, writeHeads_eq_mapIdx, funext hf]
  -- From here on `written` is only a name: unfolding it would make Lean compare whole states at every address.
  clear_value written
  refine ⟨fun hbase => ?_, ?_, ?_, ?_, ?_, ?_, ?_, ?_, ?_, ?_, ?_⟩
  · have ha : addr ≠ 0x7D ∧ addr ≠ 0x7E := by constructor <;> bv_omega
    exact entries (k := .headField) ha (paramWriteKind_base hbase data) rfl (HeadEntry.writeByte_base hbase data)
  all_goals rintro rfl
  · exact entries (k := .headField) (by decide) rfl rfl fun _ => rfl
  · exact entries (k := .headField) (by decide) rfl rfl fun _ => rfl
  · exact entries (k := .headField) (by decide) rfl rfl fun _ => rfl
  · exact entries (k := .headField) (by decide) rfl rfl fun _ => rfl
  · exact entries (k := .headField) (by decide) rfl rfl fun _ => rfl
  · exact entries (k := .headField) (by decide) rfl rfl fun _ => rfl
  · exact entries (k := .lowByte) (by decide) rfl rfl fun _ => rfl
  · exact entries (k := .lowByte) (by decide) rfl rfl fun _ => rfl
  · exact entries (k := .highByte) (by decide) rfl rfl (·.writeHigh_l0Value data)
  · exact entries (k := .highByte) (by decide) rfl rfl (·.writeHigh_hrefValue data)

end Sys2Proof.Machine
end

section
/-! SUPPORT. The page shadow at the end of a port's sequence, through every command, and the standing of a waiting frame
(R138, R140 to R142; log 17). -/

namespace Sys2Proof.Machine

/-! ## Content selects no page (R140) -/

/-- A list of frames that selects no page leaves every page shadow as it is. -/
def SelectsNoPage (fs : List InsertedFrame) : Prop := ∀ page, pageAfter page fs = page

theorem upkeepContent_selectsNoPage (img : LevelImage) (t : Byte × Byte × Byte) :
    SelectsNoPage (upkeepContent img t) := by
  have one (addr : Addr) (image : Option Byte) (target : Byte) : SelectsNoPage (upkeepWrite addr image target) := by
    intro page
    unfold upkeepWrite
    split <;> rfl
  intro page
  rw [upkeepContent, pageAfter_append, pageAfter_append, one, one, one]

theorem recordContent_selectsNoPage (n : BitVec 3) (p : PendingRecord) : SelectsNoPage (recordContent n p) :=
  fun _ => rfl

namespace Channel

variable {now : Nat} {ch : Channel}

/-! ## Grants and completed frames -/

/-- A sequence granted on a free port, under a known page shadow, leaves that shadow at its end (R140). -/
theorem startJob_pageAtEnd (hp : ch.port.page.isSome) (hj : ch.port.job = none) (o : SeqOwner) (page : Nibble)
    {content : List InsertedFrame} (hc : SelectsNoPage content) :
    (ch.startJob now (.inserted o (buildSequence ch.port.page page content))).port.pageAtEnd = ch.port.pageAtEnd := by
  obtain ⟨p, hp⟩ := Option.isSome_iff_exists.1 hp
  rw [Port.pageAtEnd_free hj, hp]
  exact (congrArg (pageAfter · _) hp).trans (pageAfter_buildSequence p page hc)

/-- The frames still to be sent decide over the page shadow at the end, the port being free after the last (R140). -/
theorem advance_pageAtEnd (o : SeqOwner) (rest : List InsertedFrame) (ch : Channel) :
    (ch.advance now o rest).port.pageAtEnd = pageAfter ch.port.page rest := by
  cases rest with
  | nil =>
    have hj : (ch.advance now o []).port.job = none := advance_job ..
    rw [Port.pageAtEnd_free hj, (advance_shadows ..).1]
    rfl
  | cons f rest => rfl

end Channel

/-- A grant or a completed frame, other than a learning read, leaves the page shadow that the port will have at the end
of its sequence (R138, R140). -/
theorem State.Frame.pageAtEnd {c : Chan} {s : State} {i : Instr} {ch' : Channel} (h : s.Frame c i ch')
    (hp : (s.ch c).PortLaw c s.slot) (hi : ∀ byte, i ≠ .learningReadComplete c byte) :
    ch'.port.pageAtEnd = (s.ch c).port.pageAtEnd := by
  have free {w : Work} (h : s.choice c = some w) : (s.ch c).port.job = none := (State.choice_eq_some h).2.2.1
  have found {w : Work} (h : s.choice c = some w) := Channel.arbiterChoice_found (State.choice_eq_some h).2.2.2
  -- the frame that completes has had its share in the page at the end
  have sent {o : SeqOwner} {f : InsertedFrame} {rest : List InsertedFrame} {ch₁ : Channel}
      (h : s.insertedDue c = some (o, f :: rest))
      (hf : pageAfter (s.ch c).port.page (f :: rest) = pageAfter ch₁.port.page rest) :
      (ch₁.advance s.now o rest).port.pageAtEnd = (s.ch c).port.pageAtEnd := by
    obtain ⟨-, began, hj, -⟩ := State.insertedDue_eq_some.1 h
    rw [Channel.advance_pageAtEnd, Port.pageAtEnd_inserted hj, hf]
  cases h with
  | grantRelayed h => rw [Port.pageAtEnd_free (free h)]; rfl
  | grantLearning h => rw [Port.pageAtEnd_free (free h)]; rfl
  | grantUpkeep h =>
    have hpage := (hp.learned (found h).1).1
    unfold Channel.startUpkeep
    split
    · exact Channel.startJob_pageAtEnd hpage (free h) _ _ (upkeepContent_selectsNoPage _ _)
    · rfl
  | grantRecord h =>
    have hpage := (hp.learned (found h)).1
    unfold Channel.startRecord
    split
    · exact Channel.startJob_pageAtEnd (ch := { s.ch c with jnl := _ }) hpage (free h) _ _
        (recordContent_selectsNoPage _ _)
    · rfl
  | grantSummary h => exact Channel.startJob_pageAtEnd (hp.learned (found h)).1 (free h) _ _ fun _ => rfl
  | learnPage => exact absurd rfl (hi _)
  | learnHead => exact absurd rfl (hi _)
  | pageSelected h => exact sent h rfl
  | upkeepWritten h => exact sent h rfl
  | recordWritten h => exact sent h rfl
  | summaryWritten h => exact sent h rfl

/-! ## Completed relayed frames -/

/-- Only a page select and a preamplifier reset move the page shadow (R138, R145). -/
theorem WriteKind.effect_page {k : WriteKind} (hp : k ≠ .pageSelect) (hr : k ≠ .preampReset) (now : Nat) (addr : Addr)
    (data : Byte) (ch : Channel) : (k.effect now addr data ch).port.page = ch.port.page := by
  rw [WriteKind.effect_eq, (k.plan_planned (now := now) (start := false) (k.dress addr data ch)).port]
  cases k with
  | pageSelect => exact absurd rfl hp
  | preampReset => exact absurd rfl hr
  | _ => rfl

/-- A command of a channel, other than those that set the page shadow, leaves it as it will be at the end of the port's
sequence (R138, R140). -/
theorem State.Answer.pageAtEnd {c : Chan} {s t : State} {i : Instr} (h : s.Answer c i t)
    (hp : (s.ch c).PortLaw c s.slot) (hsel : i ≠ .pageSelectWrite c) (hres : i ≠ .preamplifierReset c)
    (hlearn : ∀ byte, i ≠ .learningReadComplete c byte) :
    (t.ch c).port.pageAtEnd = (s.ch c).port.pageAtEnd := by
  cases h with
  | unchanged => rfl
  | move _ h => rw [State.upd_ch, h.local.port]
  | frame _ h => rw [State.upd_ch, h.pageAtEnd hp hlearn]
  | @write k _ _ _ hi hw =>
    obtain ⟨-, -, began, hj, -⟩ := hw
    rw [State.delivered_ch, Port.pageAtEnd_relayed hj, Port.pageAtEnd_free rfl]
    refine WriteKind.effect_page ?_ ?_ _ _ _ _ <;> rintro rfl
    · exact hsel hi
    · exact hres hi
  | read _ hr =>
    obtain ⟨-, -, began, page, hj, -⟩ := hr
    rw [State.ch_reception, State.delivered_ch, Port.pageAtEnd_relayed hj, Port.pageAtEnd_free rfl, readEffect_port]

/-- Settles O56: a channel is left by every command but its own, and the standing of a waiting frame is a matter of the
slot and of the page shadow at the end. -/
theorem sequencesRestoreThePage : Obligations.SequencesRestoreThePage := by
  intro i c s t hlaw h hreset hsel hres hlearn
  have hpage : (t.ch c).port.pageAtEnd = (s.ch c).port.pageAtEnd := by
    rcases exec_ch h c with heq | ⟨hr, -⟩ | ⟨-, ha⟩
    · rw [heq]
    · rw [hreset] at hr; cases hr
    · exact ha.pageAtEnd ((State.relayLaw_iff.1 hlaw).2 c).1 hsel hres hlearn
  refine ⟨hpage, fun hslot => ?_⟩
  rw [Channel.holdsProtected, Channel.holdsProtected, hslot, hpage]

end Sys2Proof.Machine
end

section
/-! SUPPORT. The row of the table under which a completed write falls, and the writes of the selects, the level registers
and the preamplifier reset, written out (R138, R143, R145, R147, R155, R158, R170). -/

namespace Sys2Proof.Machine

/-! ## One row for each kind of write (R143) -/

/-- The kinds of a completed write, in the order in which `Obligations.EachWriteHasOneRow` lists their rows. -/
def WriteKind.all : List WriteKind :=
  [.pageSelect, .headSelect, .preampReset, .levelRegister, .headField, .lowByte, .highByte, .bandSelect, .modeNormal,
    .modeShadow, .modeHalt, .heatSetting, .monitorRegister, .stallLimit, .wedgeLevel, .faultClear, .channelRestart,
    .inject, .other]

theorem WriteKind.mem_all (k : WriteKind) : k ∈ WriteKind.all := by cases k <;> decide

/-- A write of another kind makes no change (log 4). -/
theorem exec_write_of_ne {c : Chan} {s : State} {page : Option Nibble} {addr : Addr} {data : Byte} {k : WriteKind}
    (hw : s.writeCompletes c page addr data) (hk : writeKind s.loaded.pageParam page addr data ≠ k) :
    exec (k.command c) s = .next s := by
  rw [exec_writeCommand, State.completeWrite, State.relayedDue_of_writeCompletes hw]
  exact congrArg _ (if_neg hk)

/-! ## What no block receives (R115, R143) -/

theorem paramWriteKind_other {addr : Addr} {data : Byte}
    (h : ¬ (addr.toNat ≤ 0x21 ∨ 0x40 ≤ addr.toNat ∧ addr.toNat ≤ 0x4C ∧
      (addr = 0x4B → data = 0xC1 ∨ data = 0xC2))) : paramWriteKind addr data = .other := by
  obtain ⟨hlow, hhigh⟩ := not_or.1 h
  by_cases hcommand : addr = 0x4B
  · subst hcommand
    obtain ⟨hclear, hrestart⟩ : data ≠ 0xC1 ∧ data ≠ 0xC2 := by simpa using hhigh
    exact (if_neg hclear).trans (if_neg hrestart)
  · have hout : addr.toNat < 0x40 ∨ 0x4C < addr.toNat := by
      by_contra hin
      exact hhigh ⟨by omega, by omega, fun he => absurd he hcommand⟩
    unfold paramWriteKind
    rw [if_neg (by bv_omega), if_neg (by bv_omega), if_neg hlow, if_neg (by bv_omega), if_neg (by bv_omega),
      if_neg (by omega), if_neg (by bv_omega), if_neg (by bv_omega), if_neg (by bv_omega), if_neg hcommand,
      if_neg (by bv_omega)]

/-- Settles O49: the kind of a write names its row, and every row is that of one kind. -/
theorem eachWriteHasOneRow : Obligations.EachWriteHasOneRow := by
  intro c s page addr data _ hw rows received
  have hrows : rows = WriteKind.all.map (·.command c) := rfl
  refine ⟨⟨_, ?_, ⟨_, exec_write rfl hw rfl, ?_⟩, fun j hj hne => ?_⟩, fun hnot => ?_⟩
  · exact hrows ▸ List.mem_map_of_mem (WriteKind.mem_all _)
  · simp
  · obtain ⟨k, -, rfl⟩ := List.mem_map.1 (hrows ▸ hj)
    exact exec_write_of_ne hw fun hk => hne (hk ▸ rfl)
  · have hother : writeKind s.loaded.pageParam page addr data = .other := by
      obtain ⟨hpage, hhead, hreset, hlevel, hparam⟩ : addr ≠ 0x7E ∧ addr ≠ 0x7D ∧
          ¬ (page = some 0 ∧ addr = 0x7C ∧ data = 0x5A) ∧
          ¬ (page = some 1 ∧ (addr = 0x10 ∨ addr = 0x11 ∨ addr = 0x12)) ∧
          ¬ (page = some s.loaded.pageParam ∧ _) := by simpa only [received, not_or] using hnot
      rw [writeKind, if_neg hpage, if_neg hhead, if_neg hreset, if_neg hlevel]
      split
      · next hp => exact paramWriteKind_other fun h => hparam ⟨hp, h⟩
      · rfl
    exact (exec_write rfl hw hother).trans (congrArg _ (State.delivered_const c id s).symm)

/-! ## Selects, levels and the preamplifier reset (R138, R145, R147, R155, R158, R170) -/

theorem lowNibble_eq (data : Byte) : lowNibble data = BitVec.ofNat 4 (data.toNat % 16) := by
  apply BitVec.eq_of_toNat_eq
  simp [lowNibble]

theorem writeKind_levelRegister (pageParam : Nibble) {addr : Addr} (h : addr = 0x10 ∨ addr = 0x11 ∨ addr = 0x12)
    (data : Byte) : writeKind pageParam (some 1) addr data = .levelRegister := by
  unfold writeKind
  rw [if_neg (by rcases h with rfl | rfl | rfl <;> decide), if_neg (by rcases h with rfl | rfl | rfl <;> decide),
    if_neg fun hr => absurd hr.1 (by decide), if_pos ⟨rfl, h⟩]

/-- Settles O48: each address and page names its kind of write, and the kind its effect on the channel. -/
theorem selectsLevelsAndPreamplifierReset : Obligations.SelectsLevelsAndPreamplifierReset := by
  intro c s ch page addr data hs hw nibble
  have written {ch' : Channel} (k : WriteKind) (hk : writeKind s.loaded.pageParam page addr data = k)
      (he : k.effect s.now addr data ch = ch') : exec (k.command c) s = .next (s.delivered c fun _ => ch') := by
    rw [exec_write hs hw hk, he]
  have level (hp : page = some 1) (ha : addr = 0x10 ∨ addr = 0x11 ∨ addr = 0x12) :=
    written .levelRegister (hp ▸ writeKind_levelRegister _ ha data) rfl
  refine ⟨?_, ?_, fun hp ha => ?_, fun hp ha => ?_, fun hp ha => ?_, ?_⟩
  · rintro rfl
    exact written .pageSelect rfl (congrArg (Channel.setPage · ch) (lowNibble_eq data))
  · rintro rfl
    exact written .headSelect rfl (congrArg (Channel.setHeadSel s.now · ch) (lowNibble_eq data))
  · subst ha
    exact level hp (by decide)
  · subst ha
    exact level hp (by decide)
  · subst ha
    exact level hp (by decide)
  · rintro rfl rfl rfl
    exact written .preampReset rfl rfl

end Sys2Proof.Machine
end

section
/-! SUPPORT. The bits of a number and of a frame, both ways (R131). -/

namespace Sys2Proof

/-! ## Numbers and their bits (R131) -/

theorem foldl_bits_eq (acc : Nat) (bits : List Bool) :
    bits.foldl (fun n b => 2 * n + b.toNat) acc = 2 ^ bits.length * acc + bitsToNat bits := by
  induction bits generalizing acc with
  | nil => simp [bitsToNat]
  | cons b bits ih =>
    simp only [List.foldl_cons, bitsToNat, List.length_cons, ih (2 * acc + b.toNat), ih (2 * 0 + b.toNat)]
    ring

theorem bitsToNat_cons (b : Bool) (bits : List Bool) :
    bitsToNat (b :: bits) = 2 ^ bits.length * b.toNat + bitsToNat bits := by
  rw [bitsToNat, List.foldl_cons, foldl_bits_eq, Nat.mul_zero, Nat.zero_add]

theorem bitsToNat_lt (bits : List Bool) : bitsToNat bits < 2 ^ bits.length := by
  induction bits with
  | nil => exact Nat.one_pos
  | cons b bits ih =>
    rw [bitsToNat_cons, List.length_cons, Nat.pow_succ]
    have hb : 2 ^ bits.length * b.toNat ≤ 2 ^ bits.length * 1 := Nat.mul_le_mul_left _ (Bool.toNat_le b)
    omega

@[simp] theorem natToBits_length (w n : Nat) : (natToBits w n).length = w := by
  induction w with
  | zero => rfl
  | succ w ih => rw [natToBits, List.length_cons, ih]

/-- The bits of a number below 2^w give the number back. -/
theorem bitsToNat_natToBits (w n : Nat) : bitsToNat (natToBits w n) = n % 2 ^ w := by
  induction w with
  | zero => rw [Nat.pow_zero, Nat.mod_one]; rfl
  | succ w ih =>
    rw [natToBits, bitsToNat_cons, ih, natToBits_length, Nat.mod_pow_succ, Nat.toNat_testBit, Nat.add_comm]

/-- Only the low `w` bits of a number show in its `w` bits. -/
theorem natToBits_congr {w m n : Nat} (h : ∀ v < w, m.testBit v = n.testBit v) : natToBits w m = natToBits w n := by
  induction w with
  | zero => rfl
  | succ w ih => rw [natToBits, natToBits, h w w.lt_succ_self, ih fun v hv => h v (Nat.lt_succ_of_lt hv)]

/-- The number of some bits gives the bits back. -/
theorem natToBits_bitsToNat (bits : List Bool) : natToBits bits.length (bitsToNat bits) = bits := by
  induction bits with
  | nil => rfl
  | cons b bits ih =>
    have hbit (v : Nat) := Nat.testBit_two_pow_mul_add b.toNat (bitsToNat_lt bits) v
    have hfirst : (2 ^ bits.length * b.toNat + bitsToNat bits).testBit bits.length = b := by
      rw [hbit, if_neg (Nat.lt_irrefl _), Nat.sub_self]
      cases b <;> rfl
    have hrest : natToBits bits.length (2 ^ bits.length * b.toNat + bitsToNat bits) = bits :=
      (natToBits_congr fun v hv => (hbit v).trans (if_pos hv)).trans ih
    rw [List.length_cons, natToBits, bitsToNat_cons, hfirst, hrest]

theorem natToBits_ofNat {w : Nat} {bits : List Bool} (h : bits.length = w) :
    natToBits w (BitVec.ofNat w (bitsToNat bits)).toNat = bits := by
  subst h
  rw [BitVec.toNat_ofNat, Nat.mod_eq_of_lt (bitsToNat_lt bits), natToBits_bitsToNat]

theorem ofNat_bitsToNat {w : Nat} (x : BitVec w) : BitVec.ofNat w (bitsToNat (natToBits w x.toNat)) = x := by
  rw [bitsToNat_natToBits, Nat.mod_eq_of_lt x.isLt, BitVec.ofNat_toNat, BitVec.setWidth_eq]

/-! ## The fields of a frame (R131) -/

theorem frameBits_length (read : Bool) (addr : Addr) (data : Byte) : (frameBits read addr data).length = 16 := by
  simp [frameBits]

/-- The address is read from the eight bits that begin a frame. -/
theorem frameAddr_eq (read : Bool) (addr : Addr) (beyond : List Bool) :
    frameAddr (read :: (natToBits 7 addr.toNat ++ beyond)) = addr := by
  rw [frameAddr, List.drop_one, List.tail_cons, List.take_left' (natToBits_length ..), ofNat_bitsToNat]

theorem frameAddr_frameBits (read : Bool) (addr : Addr) (data : Byte) (beyond : List Bool) :
    frameAddr (frameBits read addr data ++ beyond) = addr := by
  rw [frameBits, List.cons_append, List.append_assoc, frameAddr_eq]

theorem frameData_frameBits (read : Bool) (addr : Addr) (data : Byte) (beyond : List Bool) :
    frameData (frameBits read addr data ++ beyond) = data := by
  rw [frameData, frameBits, List.cons_append, List.append_assoc, List.drop_succ_cons,
    List.drop_left' (natToBits_length ..), List.take_left' (natToBits_length ..), ofNat_bitsToNat]

theorem take_frameBits (read : Bool) (addr : Addr) (data : Byte) :
    (frameBits read addr data).take 8 = read :: (natToBits 7 addr.toNat ++ []) := by
  rw [frameBits, List.take_succ_cons, List.take_left' (natToBits_length ..), List.append_nil]

/-- The bits of the address field stand again in the frame of the address. -/
theorem natToBits_frameAddr (first : Bool) {bits : List Bool} (h : 7 ≤ bits.length) :
    natToBits 7 (frameAddr (first :: bits)).toNat = bits.take 7 :=
  natToBits_ofNat (List.length_take_of_le h)

/-- The first sixteen bits that were clocked in are those of the frame they spell. -/
theorem frameBits_of_bits (first : Bool) {bits : List Bool} (h : 15 ≤ bits.length) :
    frameBits first (frameAddr (first :: bits)) (frameData (first :: bits)) = first :: bits.take 15 := by
  have hdata : natToBits 8 (frameData (first :: bits)).toNat = (bits.drop 7).take 8 :=
    natToBits_ofNat (by simp only [List.length_take, List.length_drop, List.length_cons]; omega)
  rw [frameBits, natToBits_frameAddr first (by omega), hdata, ← List.take_add]

end Sys2Proof
end

section
/-! SUPPORT. The upstream frames (R131 to R135), and what a port carries for them and for an inserted sequence (R133, R134,
R136, R138, R139). -/

namespace Sys2Proof.Machine

/-! ## Upstream frames (R131 to R135) -/

/-- One active select with RDY high begins a frame that is received (R131, R177). -/
theorem frameBegun_lines (rdy selA selB : Bool) : frameBegun rdy (selectActive selA) (selectActive selB) =
    if rdy = true ∧ selA = false ∧ selB = true then .receiving .a
    else if rdy = true ∧ selA = true ∧ selB = false then .receiving .b
    else .ignored := by
  revert rdy selA selB
  decide

theorem Channel.parked_iff {ch : Channel} : ch.parked = true ↔ ch.heads = [] := List.isEmpty_iff

section
variable {s : State} {c : Chan} {bits : List Bool}

theorem exec_upstreamWriteEnd (hr : s.reception = .receiving c) (hd : directionIs false bits = true) :
    exec (.upstreamWriteEnd bits) s = .next (s.receiveWrite c bits) := by
  simp only [exec, execUpstreamWriteEnd, hr, hd, if_true]

theorem exec_upstreamReadAddress (hr : s.reception = .receiving c) (hl : bits.length = 8)
    (hd : directionIs true bits = true) : exec (.upstreamReadAddress bits) s = .next (s.receiveRead c bits) := by
  simp only [exec, execUpstreamReadAddress, hr, hl, hd, and_self, if_true]

/-- A write of 16 bits or more enters the empty slot (R133). -/
theorem State.receiveWrite_enters (hl : 16 ≤ bits.length) (hh : (s.ch c).heads ≠ []) (hs : s.slot = none) :
    s.receiveWrite c bits = { s with
      reception := .idle, rdy := false, slot := some ⟨c, .write (frameAddr bits) (frameData bits)⟩ } :=
  if_pos ⟨hl, fun hp => hh (Channel.parked_iff.1 (by rwa [State.ch_reception] at hp)), hs⟩

/-- A shorter one, or one for a parked channel, is discarded (R135). -/
theorem State.receiveWrite_discards (h : bits.length < 16 ∨ (s.ch c).heads = []) :
    s.receiveWrite c bits = { s with reception := .idle } := by
  refine if_neg fun hc => ?_
  obtain ⟨hl, hp, -⟩ := hc
  rcases h with h | h
  · omega
  · exact hp (by rw [State.ch_reception, Channel.parked_iff, h])

/-- A read enters the empty slot (R134). -/
theorem State.receiveRead_enters (hh : (s.ch c).heads ≠ []) (hs : s.slot = none) :
    s.receiveRead c bits = { s with
      reception := .reading c, rdy := false, slot := some ⟨c, .read (frameAddr bits) .held⟩ } :=
  if_neg (not_or.2 ⟨fun hp => hh (Channel.parked_iff.1 hp), by simp [hs]⟩)

theorem State.receiveRead_ignores (hh : (s.ch c).heads = []) :
    s.receiveRead c bits = { s with reception := .ignored } := if_pos (.inl (Channel.parked_iff.2 hh))

/-- A read that waits is cancelled (R134). -/
theorem State.giveUpRead_waiting (h : ¬ ∃ t page, (s.ch c).port.job = some ⟨t, .relayed page⟩) (hold : ReadHold) :
    s.giveUpRead c hold = { s with slot := none, rdy := true } := if_neg fun hc => h (Channel.carriesRelayed_iff.1 hc)

/-- A read whose downstream frame has begun is marked, and runs on (R134). -/
theorem State.giveUpRead_begun {addr : Addr} {hold : ReadHold} (hs : s.slot = some ⟨c, .read addr hold⟩)
    (h : ∃ t page, (s.ch c).port.job = some ⟨t, .relayed page⟩) (hold' : ReadHold) :
    s.giveUpRead c hold' = { s with slot := some ⟨c, .read addr hold'⟩ } := by
  rw [State.giveUpRead, if_pos (Channel.carriesRelayed_iff.2 h), hs]
  rfl

end

/-- Settles O51, clause by clause: what the reception is decides what a command of the frame does. -/
theorem upstreamFrames : Obligations.UpstreamFrames := by
  intro s began
  refine ⟨fun selA selB hidle hsel => ?_, fun c addr data beyond hr hh hs => ?_, fun c bits hr hd h => ?_,
    fun c addr hr hh hs => ?_, fun c addr hr hh => ?_, fun c addr hold hr hs hb => ?_, fun c addr hold hr hs hb => ?_,
    fun c byte hr => ?_, fun bits hr => ?_⟩
  · have hactive : (selectActive selA || selectActive selB) = true := by
      rwa [Bool.or_eq_true, selectActive_iff, selectActive_iff]
    simp only [exec, execUpstreamFrameStart, hidle, hactive, and_self, if_true, frameBegun_lines]
  · rw [exec_upstreamWriteEnd hr rfl, State.receiveWrite_enters _ hh hs, frameAddr_frameBits, frameData_frameBits]
    rw [List.length_append, frameBits_length]
    exact Nat.le_add_right ..
  · rw [exec_upstreamWriteEnd hr hd, State.receiveWrite_discards h]
  · rw [exec_upstreamReadAddress hr rfl rfl, State.receiveRead_enters hh hs, take_frameBits, frameAddr_eq]
  · rw [exec_upstreamReadAddress hr rfl rfl, State.receiveRead_ignores hh]
  · simp only [exec, execEarlyRelease, execDoubleSelect, hr, State.giveUpRead_waiting hb, and_self]
  · simp only [exec, execEarlyRelease, execDoubleSelect, hr, State.giveUpRead_begun hs hb, and_self]
  · rcases hr with hr | hr <;> simp only [exec, execDoubleSelect, execUpstreamReadEnd, hr, and_self]
  · simp only [exec, execUpstreamWriteEnd, execUpstreamReadEnd, hr, and_self]

/-! ## What a port carries (R133, R134, R136) -/

/-- Once a frame in the slot is granted, the port carries its bits (R136). -/
theorem State.portFrame_of_grant {c : Chan} {k : FrameKind} {t u : State} (hs : t.slot = some ⟨c, k⟩)
    (hc : t.choice c = some .relayed) (h : exec (.relayedFrameGrant c) t = .next u) :
    u.portFrame c = some (k.bits (Config.ddiThroughData c t.now)) := by
  have hu : u = t.upd c fun ch => ch.startJob t.now (.relayed ch.port.page) := by
    simp only [exec, execRelayedFrameGrant, hc, if_true] at h
    cases h
    rfl
  have hjob : (u.ch c).port.job = some ⟨t.now, .relayed (t.ch c).port.page⟩ := by rw [hu, State.upd_ch]; rfl
  have hwait : waitingFrame c u.slot = some k := waitingFrame_eq_some.2 (by rw [hu]; simpa using hs)
  rw [State.portFrame, hjob]
  exact congrArg (Option.map _) hwait

theorem State.portFrame_of_inserted {c : Chan} {s : State} {began : Nat} {o : SeqOwner} {f : InsertedFrame}
    {rest : List InsertedFrame} (h : (s.ch c).port.job = some ⟨began, .inserted o (f :: rest)⟩) :
    s.portFrame c = some (f.bits (Config.ddiThroughData c began)) := by
  rw [State.portFrame, h]
  rfl

theorem InsertedFrame.bits_length (idle : Byte) (f : InsertedFrame) : (f.bits idle).length = 16 := by
  cases f <;> exact frameBits_length ..

/-- Settles O52: a frame's bits and fields give one another back, and the port's frame has the bits of the slot's. -/
theorem frameBitsAgree : Obligations.FrameBitsAgree := by
  refine ⟨fun read addr data beyond => ⟨frameBits_length .., beq_self_eq_true read, frameAddr_frameBits ..,
    frameData_frameBits ..⟩, fun first _ h => frameBits_of_bits first h, fun c s t u => ⟨?_, ?_, ?_⟩⟩
  · intro bits hr hh hs hfirst hl ht hc hu
    obtain ⟨bits, rfl⟩ := List.head?_eq_some_iff.1 hfirst
    rw [exec_upstreamWriteEnd hr rfl, State.receiveWrite_enters hl hh hs] at ht
    cases ht
    rw [State.portFrame_of_grant rfl hc hu, FrameKind.bits, frameBits_of_bits]
    · rfl
    · exact Nat.le_of_succ_le_succ hl
  · intro bits hr hh hs hfirst hl ht hc hu
    obtain ⟨bits, rfl⟩ := List.head?_eq_some_iff.1 hfirst
    have hlen : bits.length = 7 := Nat.succ.inj hl
    rw [exec_upstreamReadAddress hr hl rfl, State.receiveRead_enters hh hs] at ht
    cases ht
    refine ⟨natToBits 8 (Config.ddiThroughData c s.now).toNat, natToBits_length .., ?_⟩
    rw [State.portFrame_of_grant rfl hc hu, FrameKind.bits, frameBits, natToBits_frameAddr _ hlen.ge,
      List.take_of_length_le hlen.le]
    rfl
  · intro began o f rest hj
    refine ⟨_, State.portFrame_of_inserted hj, f.bits_length _, ?_, ?_, ?_, ?_⟩
    · rintro p rfl; rfl
    · rintro addr data rfl; rfl
    · rintro rfl; exact take_frameBits ..
    · rintro rfl; exact take_frameBits ..

end Sys2Proof.Machine
end

section
/-! SUPPORT. What is protected and held, and the arbiter's choice on a free port (R137, R141, R142, R151, R164). -/

namespace Sys2Proof.Machine

/-! ## Protected frames and those held (R141, R142) -/

theorem protectedFrame_write_iff {page : Option Nibble} {addr : Addr} {data : Byte} :
    protectedFrame page (.write addr data) = true ↔
      addr = 0x7D ∨ addr ∈ [0x10, 0x11, 0x12] ∧ (page = none ∨ page = some 1) ∨
        addr = 0x7C ∧ (page = none ∨ page = some 0) := by
  simp only [protectedFrame, Bool.or_eq_true, Bool.and_eq_true, beq_iff_eq, List.mem_cons, List.not_mem_nil, or_false,
    or_assoc]

namespace Channel

variable {c : Chan} {slot : Option SlotFrame} {ch : Channel}

/-- On a free port the waiting frame is eligible once learning is complete, a protected one only while the channel is
not active (R137, R142). -/
theorem relayEligible_iff (hj : ch.port.job = none) : ch.relayEligible c slot = true ↔
    ch.port.learning = .complete ∧
      ∃ k, slot = some ⟨c, k⟩ ∧ (protectedFrame ch.port.page k = true → ch.active = false) := by
  simp only [Channel.relayEligible, Bool.and_eq_true, Option.isSome_iff_exists, waitingFrame_eq_some, beq_iff_eq,
    Bool.not_eq_true', ← Bool.not_eq_true, Channel.holdsProtected_iff, Port.pageAtEnd_free hj]
  constructor
  · rintro ⟨⟨⟨k, hk⟩, hl⟩, hheld⟩
    exact ⟨hl, k, hk, fun hp ha => hheld ⟨⟨k, hk, hp⟩, ha⟩⟩
  · rintro ⟨hl, k, rfl, hfree⟩
    refine ⟨⟨⟨k, rfl⟩, hl⟩, ?_⟩
    rintro ⟨⟨k', hk, hp⟩, ha⟩
    cases hk
    exact hfree hp ha

/-- Record work is a pending record and a free slot at next-write (R164). -/
theorem recordWork_iff (h : ch.jnl.slots.length = 8) : ch.recordWork = true ↔
    ch.jnl.pending ≠ [] ∧ ch.jnl.slots[ch.jnl.nextWrite.toNat]? = some .free := by
  have hlt : ch.jnl.nextWrite.toNat < ch.jnl.slots.length := h ▸ ch.jnl.nextWrite.isLt
  simp only [Channel.recordWork, Journal.nextSlot, Bool.and_eq_true, Bool.not_eq_true', List.isEmpty_eq_false_iff,
    beq_iff_eq, List.getD_eq_getElem?_getD, List.getElem?_eq_getElem hlt, Option.getD_some, Option.some.injEq]

theorem summaryWork_iff : ch.summaryWork = true ↔ ch.jnl.lastSummary ≠ some ch.summary := bne_iff_ne

/-! ## The arbiter's choice (R137) -/

theorem arbiterChoice_none (h : ch.heads = [] ∨ ch.port.job ≠ none) : ch.arbiterChoice c slot = none :=
  if_pos (h.imp Channel.parked_iff.2 Option.isSome_iff_ne_none.2)

section
variable (hh : ch.heads ≠ []) (hj : ch.port.job = none)
include hh hj

theorem not_parked_or_busy : ¬ (ch.parked = true ∨ ch.port.job.isSome = true) := by
  simp [Channel.parked_iff, hh, hj]

/-- Until learning is complete the choice is the learning sequence, while it is queued (R139). -/
theorem arbiterChoice_unlearned (hl : ch.port.learning ≠ .complete) :
    ch.arbiterChoice c slot = if ch.port.learning = .queued then some .learning else none := by
  have heligible : ¬ ch.relayEligible c slot = true := fun he => hl ((relayEligible_iff hj).1 he).1
  rw [Channel.arbiterChoice, if_neg (not_parked_or_busy hh hj), if_neg heligible]
  exact if_congr .rfl rfl (if_pos hl)

/-- Once it is complete, the first of the relayed frame, upkeep, a record and a summary that finds its condition. -/
theorem arbiterChoice_learned (hl : ch.port.learning = .complete) :
    ch.arbiterChoice c slot =
      if ch.relayEligible c slot then some .relayed
      else if ch.upkeepRequest ∧ ¬ ch.active then some .upkeep
      else if ch.recordWork then some .record
      else if ch.summaryWork then some .summary
      else none := by
  rw [Channel.arbiterChoice, if_neg (not_parked_or_busy hh hj), hl]
  rfl

end

end Channel

theorem State.choice_of_running {c : Chan} {s : State} (h : s.phase = .running) :
    s.choice c = (s.ch c).arbiterChoice c s.slot := if_pos ((State.running_iff s).2 h)

theorem State.choice_of_not_running {c : Chan} {s : State} (h : s.phase ≠ .running) : s.choice c = none :=
  if_neg fun hr => h ((State.running_iff s).1 hr)

/-- Settles O53: what is protected and held, then the choice by the port, by the learning, and by the work that waits. -/
theorem arbiterOrder : Obligations.ArbiterOrder := by
  refine ⟨fun _ _ _ => protectedFrame_write_iff, fun _ _ _ => rfl, fun c slot ch => ?_, ?_⟩
  · rw [Channel.holdsProtected_iff, Port.pageAtEnd]
    rcases ch.port.job with _ | ⟨_, _ | _⟩ <;> rfl
  intro c s ch hs hslots frame upkeep record
  subst hs
  refine ⟨fun h => ?_, fun hrun hh hj => ?_⟩
  · by_cases hrun : s.phase = .running
    · rw [State.choice_of_running hrun, Channel.arbiterChoice_none (h.resolve_left (absurd hrun))]
    · exact State.choice_of_not_running hrun
  rw [State.choice_of_running hrun]
  refine ⟨fun hl => ?_, fun hl => ?_, fun hl => ?_⟩
  · rw [Channel.arbiterChoice_unlearned hh hj (by simp [hl]), if_pos hl]
  · rw [Channel.arbiterChoice_unlearned hh hj (by rcases hl with hl | hl <;> simp [hl]),
      if_neg (by rcases hl with hl | hl <;> simp [hl])]
  · have hframe : (s.ch c).relayEligible c s.slot = true ↔ frame :=
      (Channel.relayEligible_iff hj).trans (and_iff_right hl)
    have hupkeep : (s.ch c).upkeepRequest = true ∧ ¬ (s.ch c).active = true ↔ upkeep := by
      rw [Bool.not_eq_true]
    have hrecord : (s.ch c).recordWork = true ↔ record := Channel.recordWork_iff hslots
    rw [Channel.arbiterChoice_learned hh hj hl]
    refine ⟨fun hf => if_pos (hframe.2 hf), fun hf hu => ?_, fun hf hu hr => ?_, fun hf hu hr hn => ?_,
      fun hf hu hr hn => ?_⟩ <;> rw [if_neg (mt hframe.1 hf)]
    · rw [if_pos (hupkeep.2 hu)]
    · rw [if_neg (mt hupkeep.1 hu), if_pos (hrecord.2 hr)]
    · rw [if_neg (mt hupkeep.1 hu), if_neg (mt hrecord.1 hr), if_pos (Channel.summaryWork_iff.2 hn)]
    · rw [if_neg (mt hupkeep.1 hu), if_neg (mt hrecord.1 hr), if_neg fun h => Channel.summaryWork_iff.1 h hn]

end Sys2Proof.Machine
end

section
/-! SUPPORT. What each grant puts on the port (R136, R139, R140, R152, R165, R167), and what the completion of each
inserted frame does (R138 to R140, R153, R165, R167). -/

namespace Sys2Proof.Machine

/-! ## Grants (R136, R139, R140, R152, R165, R167) -/

/-- What a chosen piece of work does to its channel. -/
def Work.start (now : Nat) (pageJournal : Nibble) (ch : Channel) : Work → Channel
  | .relayed => ch.startJob now (.relayed ch.port.page)
  | .learning => ch.startLearning now
  | .upkeep => ch.startUpkeep now
  | .record => ch.startRecord now pageJournal
  | .summary => ch.startSummary now pageJournal

/-- A grant that the arbiter chooses starts its work. -/
theorem exec_grant {c : Chan} {s : State} {w : Work} (h : s.choice c = some w) :
    exec (w.command c) s = .next (s.upd c fun _ => w.start s.now s.loaded.pageJournal (s.ch c)) := by
  rw [← State.upd_const c (w.start s.now s.loaded.pageJournal ·)]
  cases w <;> exact if_pos h

/-- A grant that it does not choose makes no change (log 4). -/
theorem exec_grant_of_ne {c : Chan} {s : State} {w : Work} (h : s.choice c ≠ some w) :
    exec (w.command c) s = .next s := by cases w <;> exact if_neg h

/-- Settles O54: each piece of work starts as the arbiter chooses it, and not otherwise. -/
theorem grants : Obligations.Grants := by
  intro c s ch hs carry framed
  subst hs
  have started {ch' : Channel} (w : Work) (hc : s.choice c = some w)
      (he : w.start s.now s.loaded.pageJournal (s.ch c) = ch') :
      exec (w.command c) s = .next (s.upd c fun _ => ch') := by rw [exec_grant hc, he]
  have sequence {p : Nibble} (hp : (s.ch c).port.page = some p) (page : Nibble) (content : List InsertedFrame) :
      buildSequence (s.ch c).port.page page content = framed p page content := by rw [hp]; rfl
  refine ⟨fun hc => started .relayed hc rfl, fun hc => started .learning hc rfl,
    fun p b w v hc hp ht => started .upkeep hc ?_, fun p x rest hc hp hq => started .record hc ?_,
    fun p hc hp => started .summary hc ?_, exec_grant_of_ne (w := .relayed), exec_grant_of_ne (w := .learning),
    exec_grant_of_ne (w := .upkeep), exec_grant_of_ne (w := .record), exec_grant_of_ne (w := .summary)⟩
  · rw [Work.start, Channel.startUpkeep, ht]
    dsimp only
    rw [sequence hp]
    rfl
  · rw [Work.start, Channel.startRecord, hq]
    dsimp only
    rw [sequence hp]
    rfl
  · rw [Work.start, Channel.startSummary, sequence hp]
    rfl

/-! ## Completed frames of a sequence (R136, R138 to R140, R153, R165, R167) -/

section
variable {c : Chan} {s : State} {rest : List InsertedFrame}

theorem exec_learnPage {byte : Byte} (h : s.insertedCompletes c .learning .readPage rest) :
    exec (.learningReadComplete c byte) s =
      .next (s.upd c fun _ => ((s.ch c).setPage (lowNibble byte)).advance s.now .learning rest) := by
  simp only [exec, execLearningReadComplete, State.insertedDue_of_insertedCompletes h, if_true]
  rw [State.upd_const]

theorem exec_learnHead {byte : Byte} (h : s.insertedCompletes c .learning .readHead rest) :
    exec (.learningReadComplete c byte) s =
      .next (s.upd c fun _ => ((s.ch c).setHeadSel s.now (lowNibble byte)).advance s.now .learning rest) := by
  simp only [exec, execLearningReadComplete, State.insertedDue_of_insertedCompletes h, if_true]
  rw [State.upd_const]

theorem exec_pageSelected {o : SeqOwner} {p : Nibble} (h : s.insertedCompletes c o (.selectPage p) rest) :
    exec (.insertedPageSelectComplete c) s = .next (s.upd c fun _ => ((s.ch c).setPage p).advance s.now o rest) := by
  simp only [exec, execInsertedPageSelectComplete, State.insertedDue_of_insertedCompletes h]
  rw [State.upd_const]

theorem exec_upkeepWritten {addr : Addr} {data : Byte} (h : s.insertedCompletes c .upkeep (.content addr data) rest) :
    exec (.upkeepWriteComplete c) s =
      .next (s.upd c fun _ => ((s.ch c).imageWrite addr data).advance s.now .upkeep rest) := by
  simp only [exec, execUpkeepWriteComplete, State.insertedDue_of_insertedCompletes h]
  rw [State.upd_const]

theorem exec_journalWritten {o : SeqOwner} {addr : Addr} {data : Byte} (hu : o ≠ .upkeep) (hl : o ≠ .learning)
    (h : s.insertedCompletes c o (.content addr data) rest) :
    exec (.journalWriteComplete c) s = .next (s.upd c fun _ => (s.ch c).advance s.now o rest) := by
  rw [← State.upd_const c (Channel.advance s.now o rest)]
  simp only [exec, execJournalWriteComplete, State.insertedDue_of_insertedCompletes h]
  cases o with
  | learning => exact absurd rfl hl
  | upkeep => exact absurd rfl hu
  | record n => rfl
  | summary v => rfl

end

/-- Settles O55: each frame has its own effect, and then the sequence goes on or its originator acts. -/
theorem insertedFrames : Obligations.InsertedFrames := by
  intro c s ch rest hs send
  subst hs
  have sent (o : SeqOwner) (x : Channel) : (s.upd c fun _ => x.advance s.now o rest) = send o x := by
    refine congrArg (fun y : Channel => s.upd c fun _ => y) ?_
    cases rest with
    | nil => cases o <;> rfl
    | cons => cases o <;> rfl
  refine ⟨fun byte h => ?_, fun byte h => ?_, fun o p h => ?_, fun data h => ?_, fun data h => ?_, fun data h => ?_,
    fun o addr data hu hl h => ?_⟩
  · rw [exec_learnPage h, sent, lowNibble_eq]; rfl
  · rw [exec_learnHead h, sent, lowNibble_eq]; rfl
  · rw [exec_pageSelected h, sent]; rfl
  · rw [exec_upkeepWritten h, sent]; rfl
  · rw [exec_upkeepWritten h, sent]; rfl
  · rw [exec_upkeepWritten h, sent]; rfl
  · rw [exec_journalWritten hu hl h, sent]

end Sys2Proof.Machine
end

section
/-! SUPPORT. The Journal through every step (R161, R162, R165), posting written out (R162), and the ends of a reset
written out (R170, R171, R174). -/

namespace Sys2Proof.Machine

/-! ## The Journal's law through every step (R161, R162, R165) -/

/-- A channel held in a reset has nothing pending and every slot free, and so has a started one, but for STARTED
(R170, R174). -/
theorem Channel.held_journalLaw (heads : Nat) : (Channel.held heads).JournalLaw :=
  (Channel.held_laws (c := .a) (now := 0) (delay := 0) not_false).journal

theorem Channel.started_journalLaw (heads now : Nat) (mark : Bool) (detail : Byte) :
    (Channel.started heads now mark detail).JournalLaw :=
  (Channel.started_laws (c := .a) (now := now) (delay := 0) (running := True) mark detail).journal

/-- Every command keeps the Journal's law on each channel. -/
theorem Channel.JournalLaw.exec {c : Chan} {s t : State} {i : Instr} (h : (s.ch c).JournalLaw)
    (he : Machine.exec i s = .next t) : (t.ch c).JournalLaw := by
  rcases exec_ch he c with hsame | ⟨-, ⟨n, hheld⟩ | ⟨n, now, mark, detail, hstarted⟩⟩ | ⟨-, ha⟩
  · rwa [hsame]
  · rw [hheld]; exact Channel.held_journalLaw n
  · rw [hstarted]; exact Channel.started_journalLaw n now mark detail
  · exact ha.journalLaw h

/-- A quantum leaves the Journals and the ports. -/
theorem State.passQuantum_jnl_port (s : State) (c : Chan) :
    (s.passQuantum.ch c).jnl = (s.ch c).jnl ∧ (s.passQuantum.ch c).port = (s.ch c).port := by
  by_cases hr : s.phase = .running
  · rw [s.passQuantum_ch hr]
    exact ⟨rfl, rfl⟩
  · rw [s.passQuantum_reset hr]
    cases c <;> exact ⟨rfl, rfl⟩

/-- The channels hold neither the waiting commands nor the count of choices of order. -/
theorem State.ch_queue_and_choices (c : Chan) (s : State) (n : Nat) (q : List Instr) :
    State.ch c { s with orderCount := n, pending := q } = s.ch c := by
  cases c <;> rfl

/-- Settles O58: a command posts, or moves a slot together with its sequence; a quantum touches neither. -/
theorem journalLawIsKept : Obligations.JournalLawIsKept := by
  intro s t hs h c
  rcases step_cases h with ⟨i, n, q, he⟩ | rfl
  · exact Channel.JournalLaw.exec ((s.ch_queue_and_choices c n q).symm ▸ hs c) he
  · obtain ⟨hjnl, hport⟩ := s.passQuantum_jnl_port c
    exact (hs c).of_posts (hjnl ▸ .none) hport

/-! ## Posting (R162) -/

/-- The key is kind, head and detail together. -/
theorem PendingRecord.hasKey_iff {k : EventKind} {head detail : Byte} {p : PendingRecord} :
    p.hasKey k head detail = true ↔ p.kind = k ∧ p.head = head ∧ p.detail = detail := by
  simp [PendingRecord.hasKey, and_assoc]

theorem PendingRecord.again_eq (p : PendingRecord) :
    p.again = { p with count := if p.count < 255 then p.count + 1 else 255 } := by
  have hcount : min 255 (p.count + 1) = if p.count < 255 then p.count + 1 else 255 := by
    split <;> omega
  unfold PendingRecord.again
  rw [hcount]

theorem Journal.any_hasKey_iff {k : EventKind} {head detail : Byte} {j : Journal} :
    j.pending.any (·.hasKey k head detail) = true ↔
      ∃ p ∈ j.pending, p.kind = k ∧ p.head = head ∧ p.detail = detail := by
  simp only [List.any_eq_true, PendingRecord.hasKey_iff]

/-- Settles O16: the three cases of posting, told apart by the key and the room. -/
theorem postingAnEvent : Obligations.PostingAnEvent := by
  intro k head detail j
  rcases j.post_cases k head detail with ⟨hany, he⟩ | ⟨hany, hroom, he⟩ | ⟨hany, hfull, he⟩
  · obtain ⟨p, hp, hkey⟩ := Journal.any_hasKey_iff.1 hany
    refine ⟨fun _ => ?_, fun hnone => absurd hkey (hnone p hp), fun hnone => absurd hkey (hnone p hp)⟩
    rw [he]
    simp only [PendingRecord.hasKey_iff, PendingRecord.again_eq]
  · refine ⟨fun hsome => ?_, fun _ _ => he, fun _ hfull => absurd hroom (Nat.not_lt.2 hfull)⟩
    exact absurd (Journal.any_hasKey_iff.2 hsome) (Bool.eq_false_iff.1 hany)
  · refine ⟨fun hsome => ?_, fun _ hroom => absurd hroom (Nat.not_lt.2 hfull), fun _ _ => he⟩
    exact absurd (Journal.any_hasKey_iff.2 hsome) (Bool.eq_false_iff.1 hany)

/-! ## The ends of a reset (R170, R171, R174) -/

section
variable {s : State} {uwgA uwgB : Bool}

/-- The completed load ends the power-on or, with RSTn low, leaves the part held (R171, R174). -/
theorem exec_optionLoadComplete {due : Nat} (hp : s.phase = .loading due) (hd : due ≤ s.now) :
    exec (.optionLoadComplete uwgA uwgB) s = .next
      (if s.rstn then s.load.endReset uwgA uwgB s.load.loadStatus.startedDetail
      else { s.load.hold with phase := .loadDone }) := by
  simp only [exec, execOptionLoadComplete, hp, if_pos hd]
  cases hr : s.rstn
  · exact if_neg (hr ▸ Bool.false_ne_true)
  · exact if_pos hr

theorem exec_rstnRise_lineReset (hp : s.phase = .lineReset) :
    exec (.rstnRise uwgA uwgB) s = .next ({ s with rstn := true }.endReset uwgA uwgB 0) := by
  simp only [exec, execRstnRise, hp]

theorem exec_rstnRise_loadDone (hp : s.phase = .loadDone) :
    exec (.rstnRise uwgA uwgB) s =
      .next ({ s with rstn := true }.endReset uwgA uwgB s.loadStatus.startedDetail) := by
  simp only [exec, execRstnRise, hp]

theorem exec_rstnRise_other {due : Nat} (hp : s.phase = .loading due ∨ s.phase = .running) :
    exec (.rstnRise uwgA uwgB) s = .next { s with rstn := true } := by
  rcases hp with hp | hp <;> simp only [exec, execRstnRise, hp]

end

/-- Settles O13: each end of a reset starts both channels, or holds them till RSTn rises. -/
theorem resetsEndTogether : Obligations.ResetsEndTogether := by
  intro uwgA uwgB s started detailOf
  have hdetail (st : LoadStatus) : st.startedDetail = detailOf st := by cases st <;> rfl
  refine ⟨fun due hp hd hr => ?_, fun due hp hd hr => ?_, fun hp => ?_, fun hp => ?_, fun due hp => ?_⟩
  · rw [exec_optionLoadComplete hp hd, if_pos hr, hdetail]; rfl
  · rw [exec_optionLoadComplete hp hd, hr]
    exact ⟨_, rfl, rfl, hr, rfl, rfl, rfl, rfl, fun c => by cases c <;> rfl⟩
  · rw [exec_rstnRise_lineReset hp]; rfl
  · rw [exec_rstnRise_loadDone hp, hdetail]; rfl
  · exact exec_rstnRise_other hp

end Sys2Proof.Machine
end

section
/-! SUPPORT. What every command leaves of the part (R171, R174), and the option memory decoded byte by byte (R171 to
R173). -/

namespace Sys2Proof.Machine

/-! ## Every command answers (R171, R174) -/

/-- The time, the queue of commands, the count of choices of order and the option bytes are as they were. -/
structure State.SameClock (s t : State) : Prop where
  now : t.now = s.now
  pending : t.pending = s.pending
  orderCount : t.orderCount = s.orderCount
  optionBytes : t.optionBytes = s.optionBytes

/-- The phase, RSTn, the loaded copy and the load status are as they were. -/
structure State.SamePhase (s t : State) : Prop where
  phase : t.phase = s.phase
  rstn : t.rstn = s.rstn
  loaded : t.loaded = s.loaded
  loadStatus : t.loadStatus = s.loadStatus

theorem State.SameClock.refl (s : State) : s.SameClock s := ⟨rfl, rfl, rfl, rfl⟩

theorem State.SameBut.sameClock {s t : State} (h : s.SameBut t) : s.SameClock t := by
  rw [h]; exact ⟨rfl, rfl, rfl, rfl⟩

theorem State.SameBut.samePhase {s t : State} (h : s.SameBut t) : s.SamePhase t := by
  rw [h]; exact ⟨rfl, rfl, rfl, rfl⟩

/-- A command of a channel changes one channel and what relays its frames. -/
theorem State.Answer.sameClock {c : Chan} {s t : State} {i : Instr} (h : s.Answer c i t) : s.SameClock t := by
  cases h with
  | unchanged => exact .refl s
  | move => constructor <;> simp
  | frame => constructor <;> simp
  | write => constructor <;> simp
  | read => constructor <;> simp

theorem State.Answer.samePhase {c : Chan} {s t : State} {i : Instr} (h : s.Answer c i t) : s.SamePhase t := by
  cases h with
  | unchanged => exact ⟨rfl, rfl, rfl, rfl⟩
  | move => constructor <;> simp
  | frame => constructor <;> simp
  | write => constructor <;> simp
  | read => constructor <;> simp

/-- A reset forms the loaded copy from the option bytes and never programs them, and takes no time (R171, R174). -/
theorem exec_reset_completes {i : Instr} (hi : i.isReset = true) (s : State) :
    ∃ t, exec i s = .next t ∧ s.SameClock t := by
  cases i <;> cases hi
  case powerOn.refl => exact ⟨_, rfl, rfl, rfl, rfl, rfl⟩
  case optionLoadComplete.refl =>
    simp only [exec, execOptionLoadComplete]
    split
    · split
      · split <;> exact ⟨_, rfl, rfl, rfl, rfl, rfl⟩
      · exact ⟨s, rfl, .refl s⟩
    all_goals exact ⟨s, rfl, .refl s⟩
  case rstnFall.refl =>
    simp only [exec, execRstnFall]
    split <;> exact ⟨_, rfl, rfl, rfl, rfl, rfl⟩
  case rstnRise.refl =>
    simp only [exec, execRstnRise]
    split <;> exact ⟨_, rfl, rfl, rfl, rfl, rfl⟩

/-- Every event of an upstream frame has a next state (R131 to R135). -/
theorem exec_upstream_completes {i : Instr} (hc : i.channel = none) (hi : i.isReset = false) (s : State) :
    ∃ t, exec i s = .next t := by
  cases i <;> cases hc <;> cases hi
  case upstreamFrameStart.refl.refl =>
    simp only [exec, execUpstreamFrameStart]
    split <;> exact ⟨_, rfl⟩
  case upstreamWriteEnd.refl.refl =>
    simp only [exec, execUpstreamWriteEnd]
    split
    · split <;> exact ⟨_, rfl⟩
    all_goals exact ⟨_, rfl⟩
  case upstreamReadAddress.refl.refl =>
    simp only [exec, execUpstreamReadAddress]
    split
    · split <;> exact ⟨_, rfl⟩
    all_goals exact ⟨_, rfl⟩
  case earlyRelease.refl.refl =>
    simp only [exec, execEarlyRelease]
    split <;> exact ⟨_, rfl⟩
  case doubleSelect.refl.refl =>
    simp only [exec, execDoubleSelect]
    split <;> exact ⟨_, rfl⟩
  case upstreamReadEnd.refl.refl =>
    simp only [exec, execUpstreamReadEnd]
    split <;> exact ⟨_, rfl⟩

/-- Every command answers a next state at the same instant, and moves the phase only when it is of a reset. -/
theorem exec_completes (i : Instr) (s : State) :
    ∃ t, exec i s = .next t ∧ s.SameClock t ∧ (i.isReset = false → s.SamePhase t) := by
  cases hc : i.channel with
  | some c =>
    obtain ⟨t, ht, ha⟩ := exec_answers s hc
    exact ⟨t, ht, ha.sameClock, fun _ => ha.samePhase⟩
  | none =>
    cases hi : i.isReset with
    | true =>
      obtain ⟨t, ht, hclock⟩ := exec_reset_completes hi s
      exact ⟨t, ht, hclock, nofun⟩
    | false =>
      obtain ⟨t, ht⟩ := exec_upstream_completes hc hi s
      have hsame := exec_upstream_sameBut hc hi ht
      exact ⟨t, ht, hsame.sameClock, fun _ => hsame.samePhase⟩

/-- Settles O5: a command of a channel, an upstream frame and a reset each answer, with what they leave. -/
theorem everyCommandCompletes : Obligations.EveryCommandCompletes := by
  intro i s
  obtain ⟨t, ht, ⟨hnow, hpending, horder, hbytes⟩, hphase⟩ := exec_completes i s
  refine ⟨t, ht, hnow, hpending, horder, hbytes, fun hi => ?_⟩
  obtain ⟨hphase, hrstn, hloaded, hstatus⟩ := hphase hi
  exact ⟨hphase, hrstn, hloaded, hstatus⟩

/-! ## The option memory (R171 to R173) -/

/-- Bytes 0 and 1 alone tell a blank memory (R172). -/
theorem optionsBlank_cons_cons {b0 b1 : Byte} {rest : List Byte} :
    optionsBlank (b0 :: b1 :: rest) = true ↔ b0 = 0xFF ∧ b1 = 0xFF := by
  have hbyte (b : Byte) : b.toNat = 255 ↔ b = 0xFF := BitVec.toNat_inj (y := 0xFF#8)
  simp [optionsBlank, optionByte, hbyte]

theorem optionsBlank_eq_false {b0 b1 : Byte} {rest : List Byte} (h : ¬(b0 = 0xFF ∧ b1 = 0xFF)) :
    optionsBlank (b0 :: b1 :: rest) = false := Bool.eq_false_iff.2 (mt optionsBlank_cons_cons.1 h)

/-- A blank memory gives the defaults (R172). -/
theorem load_of_blank {bytes : List Byte} (h : optionsBlank bytes = true) :
    loadOptions bytes = {} ∧ loadStatusOf bytes = .blank := ⟨if_pos h, if_pos h⟩

/-- A memory that is not blank gives each value by its own byte or half of a byte (R171, R173). -/
theorem loadOptions_of_not_blank {bytes : List Byte} (h : optionsBlank bytes = false) :
    loadOptions bytes =
      { headsA := min 12 (optionByte bytes 0)
        headsB := min 12 (optionByte bytes 1)
        delayA := 2 * clampDelayByte (optionByte bytes 2)
        delayB := 2 * clampDelayByte (optionByte bytes 3)
        budget := 4 * optionByte bytes 4
        pageParam := if pagesClash (optionByte bytes 5 / 16) (optionByte bytes 5 % 16) then 12
          else BitVec.ofNat 4 (optionByte bytes 5 / 16)
        pageJournal := if pagesClash (optionByte bytes 5 / 16) (optionByte bytes 5 % 16) then 13
          else BitVec.ofNat 4 (optionByte bytes 5 % 16)
        tempAddr := BitVec.ofNat 7 (optionByte bytes 6 % 128)
        tempPage := BitVec.ofNat 4 (optionByte bytes 7 % 16)
        frameTime := frameTimeOf (optionByte bytes 7 / 16) } :=
  if_neg (ne_true_of_eq_false h)

theorem clampDelayByte_eq_self {b : Nat} : clampDelayByte b = b ↔ 20 ≤ b ∧ b ≤ 200 := by
  unfold clampDelayByte
  split
  · omega
  · split <;> omega

/-- The delay D is given in units of 2 quanta, 40 to 400 (R171, R173). -/
theorem two_mul_clampDelayByte (b : Nat) :
    2 * clampDelayByte b = if b < 20 then 40 else if 200 < b then 400 else 2 * b := by
  unfold clampDelayByte
  split
  · rfl
  · split <;> rfl

/-- Page numbers clash when one of them is 0 or 1 or they are equal (R173). -/
theorem pagesClash_iff {p j : Nat} : pagesClash p j = true ↔ p ≤ 1 ∨ j ≤ 1 ∨ p = j := by
  simp only [pagesClash, Bool.or_eq_true, beq_iff_eq]
  omega

/-- The low bits of an option byte (R171). -/
theorem ofNat_mod_eq_setWidth (w : Nat) (b : Byte) : BitVec.ofNat w (b.toNat % 2 ^ w) = b.setWidth w :=
  BitVec.eq_of_toNat_eq (by simp)

theorem frameTimeOf_of_three_le {code : Nat} (h : 3 ≤ code) : frameTimeOf code = 160 := by
  unfold frameTimeOf
  split <;> omega

/-- A clamp replaces a value when one of the decoded values is out of its range (R173). -/
theorem optionsClamped_iff {bytes : List Byte} :
    optionsClamped bytes = true ↔
      12 < optionByte bytes 0 ∨ 12 < optionByte bytes 1 ∨ ¬(20 ≤ optionByte bytes 2 ∧ optionByte bytes 2 ≤ 200) ∨
      ¬(20 ≤ optionByte bytes 3 ∧ optionByte bytes 3 ≤ 200) ∨
      pagesClash (optionByte bytes 5 / 16) (optionByte bytes 5 % 16) = true ∨ 3 < optionByte bytes 7 / 16 := by
  simp only [optionsClamped, Bool.or_eq_true, bne_iff_ne, decide_eq_true_eq, ne_eq, clampDelayByte_eq_self, or_assoc]

/-- The load status of a memory that is not blank (R173). -/
theorem loadStatusOf_of_not_blank {bytes : List Byte} (h : optionsBlank bytes = false) :
    loadStatusOf bytes = if optionsClamped bytes then .clamped else .loaded := by
  simp [loadStatusOf, h]

/-- A memory that is not blank and has a byte 0 or 1 above 12 is clamped (R173). -/
theorem loadStatusOf_of_heads {bytes : List Byte} (hb : optionsBlank bytes = false)
    (h : 12 < optionByte bytes 0 ∨ 12 < optionByte bytes 1) : loadStatusOf bytes = .clamped := by
  rw [loadStatusOf_of_not_blank hb, if_pos (optionsClamped_iff.2 (h.imp_right .inl))]

/-- Settles O14: each value is decoded and clamped on its own, and the status asks whether any clamp acted. -/
theorem optionBytesDecodeAndClamp : Obligations.OptionBytesDecodeAndClamp := by
  intro b0 b1 b2 b3 b4 b5 b6 b7 hblank bytes l p j clash
  have hb : optionsBlank bytes = false := optionsBlank_eq_false hblank
  have hp : p < 16 := Nat.div_lt_of_lt_mul b5.isLt
  have hj : j < 16 := Nat.mod_lt _ (by decide)
  have hmin (n : Nat) : min 12 n = if n ≤ 12 then n else 12 := by split <;> omega
  have hclash : pagesClash p j = true ↔ clash := pagesClash_iff
  rw [show l = _ from loadOptions_of_not_blank hb]
  refine ⟨hmin _, hmin _, two_mul_clampDelayByte _, two_mul_clampDelayByte _, rfl, fun hc => ?_, fun hc => ?_, ?_, ?_,
    ?_, ?_⟩
  · exact ⟨if_pos (hclash.2 hc), if_pos (hclash.2 hc)⟩
  · exact ⟨(congrArg BitVec.toNat (if_neg (mt hclash.1 hc))).trans (Nat.mod_eq_of_lt hp),
      (congrArg BitVec.toNat (if_neg (mt hclash.1 hc))).trans (Nat.mod_eq_of_lt hj)⟩
  · exact ofNat_mod_eq_setWidth 7 b6
  · exact ofNat_mod_eq_setWidth 4 b7
  · show frameTimeOf (b7.toNat / 16) = _
    rcases b7.toNat / 16 with _ | _ | _ | n
    · rfl
    · rfl
    · rfl
    · exact frameTimeOf_of_three_le (Nat.le_add_left 3 n)
  · have hany : optionsClamped bytes = true ↔ 12 < b0.toNat ∨ 12 < b1.toNat ∨ b2.toNat < 20 ∨ 200 < b2.toNat ∨
        b3.toNat < 20 ∨ 200 < b3.toNat ∨ clash ∨ 3 < b7.toNat / 16 := by
      rw [optionsClamped_iff, ← hclash]
      simp only [not_and_or, not_le, or_assoc]
      rfl
    rw [loadStatusOf_of_not_blank hb]
    exact if_congr hany rfl rfl

/-- Settles O15: a blank memory is told by its first two bytes, and one byte of 0xFF alone is 255 heads. -/
theorem blankMemoryTakesTheDefaults : Obligations.BlankMemoryTakesTheDefaults := by
  intro b0 b1 rest _
  refine ⟨fun h0 h1 => load_of_blank (optionsBlank_cons_cons.2 ⟨h0, h1⟩), fun h0 h1 => ?_, fun h0 h1 => ?_⟩
  · have hb : optionsBlank (b0 :: b1 :: rest) = false := optionsBlank_eq_false fun h => h1 h.2
    rw [loadOptions_of_not_blank hb]
    subst h0
    exact ⟨rfl, loadStatusOf_of_heads hb (.inl (by decide : 12 < (0xFF : Byte).toNat))⟩
  · have hb : optionsBlank (b0 :: b1 :: rest) = false := optionsBlank_eq_false fun h => h0 h.1
    rw [loadOptions_of_not_blank hb]
    subst h1
    exact ⟨rfl, loadStatusOf_of_heads hb (.inr (by decide : 12 < (0xFF : Byte).toNat))⟩

end Sys2Proof.Machine
end

section
/-! SUPPORT. The step itself: the queue, a due event (log 1, 2), and the state after reset (R172, R174; log 7). -/

namespace Sys2Proof.Machine

/-! ## The step -/

theorem step_of_pending {s : State} {i : Instr} {rest : List Instr} (h : s.pending = i :: rest) :
    step s = exec i { s with pending := rest } := by
  unfold step
  rw [h]

/-- With nothing waiting the part's own event is run (log 1). -/
theorem step_of_ownEvent {s t : State} {i : Instr} (hp : s.pending = []) (h : s.ownEvent = some (i, t)) :
    step s = exec i t := by
  unfold step
  rw [hp, h]

/-- A choice among the members of a list, taken modulo the list's length, is a member of it. -/
theorem getD_mod_length_mem {α : Type} (a : α) (l : List α) (n : Nat) :
    (a :: l).getD (n % (a :: l).length) a ∈ a :: l := by
  have hlt : n % (a :: l).length < (a :: l).length := Nat.mod_lt n (Nat.succ_pos l.length)
  rw [List.getD_eq_getElem _ _ hlt]
  exact List.getElem_mem _

/-- The event taken is one of those due; a choice among several is counted, and nothing else moves (log 2). -/
theorem State.ownEvent_of_due {s : State} (h : s.dueEvents ≠ []) :
    ∃ i ∈ s.dueEvents, s.ownEvent =
      some (i, { s with orderCount := s.orderCount + if s.dueEvents.length = 1 then 0 else 1 }) := by
  unfold State.ownEvent
  split
  · next hnone => exact absurd hnone h
  · next e hone => exact ⟨e, by rw [hone]; exact List.mem_singleton_self e, by rw [hone]; rfl⟩
  · next e es hmany hdue =>
    have hlen : s.dueEvents.length ≠ 1 := fun hone => by
      rw [hdue] at hone
      exact hmany (List.length_eq_zero_iff.1 (Nat.succ.inj hone))
    rw [if_neg hlen]
    refine ⟨_, ?_, rfl⟩
    rw [hdue]
    exact getD_mod_length_mem e es _

/-- Settles O1: the queue decides first. -/
theorem frontCommandRuns : Obligations.FrontCommandRuns :=
  fun _ _ _ => step_of_pending rfl

/-- Settles O3: on an empty queue the step runs the part's own event, which is one of those due. -/
theorem idleStepTakesADueEvent : Obligations.IdleStepTakesADueEvent := by
  intro s hp hdue
  obtain ⟨i, hi, hown⟩ := State.ownEvent_of_due hdue
  exact ⟨i, hi, step_of_ownEvent hp hown⟩

/-! ## The state after reset (R172, R174) -/

/-- The state after reset is the end of its own reset, the raw gates low, with the detail of a blank load. -/
theorem State.reset_eq_endReset : State.reset = State.reset.endReset false false 2 := rfl

/-- Its loaded copy is the one that its blank memory gives (R172). -/
theorem State.reset_loaded : State.reset.loaded = loadOptions State.reset.optionBytes :=
  (load_of_blank (optionsBlank_cons_cons.2 ⟨rfl, rfl⟩)).1.symm

/-- Settles O60: the end of every reset is lawful, and the state after reset is one. -/
theorem resetIsLawful : Obligations.ResetIsLawful := by
  have hloaded : State.reset.loaded.Law := State.reset_loaded ▸ loadOptions_law State.reset.optionBytes
  unfold Obligations.ResetIsLawful
  rw [State.reset_eq_endReset]
  exact .of_endReset hloaded nofun false false 2

end Sys2Proof.Machine
end
